-- ==== Sys2Proof/Word.lean ====
section
/-!
DEFINITION. The 16-bit word of every link, bus and load port of the Dastrel 4620, and the two sides of the part:
actuator A with preamplifier A and heat channel A, and actuator B with preamplifier B and heat channel B.
-/

namespace Sys2Proof

/-- A 16-bit word of the control link (R1), the laser bus (R126) or the load port (R168). -/
abbrev Word := BitVec 16

/-- A control-link register address, 0–127; the address after 127 is 0 (R1). -/
abbrev RegAddr := BitVec 7

/-- One of the two sides of the part: preamplifier, actuator and heat channel A, or B (R49, R71). -/
inductive Side where
  | a
  | b
  deriving DecidableEq, Repr

/-- The other side. -/
def Side.other : Side → Side
  | .a => .b
  | .b => .a

/-- A value for each side. -/
structure PerSide (α : Type) where
  a : α
  b : α
  deriving DecidableEq, Repr

/-- The value of one side. -/
def PerSide.get {α : Type} (v : PerSide α) : Side → α
  | .a => v.a
  | .b => v.b

/-- Replace the value of one side and keep the other's. -/
def PerSide.set {α : Type} (v : PerSide α) (x : Side) (y : α) : PerSide α :=
  match x with
  | .a => { v with a := y }
  | .b => { v with b := y }

/-- The same value on both sides. -/
def PerSide.both {α : Type} (y : α) : PerSide α := ⟨y, y⟩

end Sys2Proof
end

