-- ==== Sys2Proof/Syntax.lean ====
section
/-!
DEFINITION. The commands of the 4620: one constructor per row of spec/opcode_table.json, in the table's order.
The table gives the rows no bits and no fields; the operands here are what the outside world brings to the step
(the words clocked, the word a preamplifier returned, the levels sampled, the side an edge or an expiry belongs to).
-/

namespace Sys2Proof

/-- What the five gate qualifiers sample at one 10 ns sample (R61): `true` is HIGH. -/
structure GateSamples where
  wga : Bool
  wgb : Bool
  sga : Bool
  sgb : Bool
  frz : Bool
  deriving DecidableEq, Repr

/-- Which part of a slot start a SLOT_START takes (assumption log 21). At the moment of slot 0's start falls the frame
start (R125), and at the moment of slot 1's start the fix of the effective slot map (R131); the start's own act is the
choice of the slot's word (R124). Another event of the same moment may be taken between the two. -/
inductive SlotPart where
  /-- The event of the moment, unless it has been taken already, and then the word. -/
  | whole
  /-- The event of the moment alone: ahead of the word, or, for a frame start that its word was taken ahead of,
  after it. -/
  | event
  /-- The word alone, at slot 0: its frame start is still to be taken. At every other slot as `whole`. -/
  | word
  deriving DecidableEq, Repr

/-- One command of the part: a step of spec/opcode_table.json, whole and indivisible. -/
inductive Instr where
  /-- ULEN_FALL (R2): ULEN falls. -/
  | ulenFall
  /-- ULEN_RISE (R3): ULEN rises. `words` are the complete words of a write clocked since the fall, header first;
  it is empty when less than a header was clocked. A read's header came by READ_HEADER and its words by READ_WORD. -/
  | ulenRise (words : List Word)
  /-- READ_HEADER (R13): the header of an upstream read is complete. -/
  | readHeader (header : Word)
  /-- FORWARDED_READ_START (R13): a forwarded read takes the downstream link. -/
  | forwardedReadStart
  /-- READ_WORD (R14): one data word of a forwarded read; `returned` is what was sampled on DLDA. -/
  | readWord (returned : Word)
  /-- READ_ANSWER_FFFF (R15): one word of a read that is not forwarded. -/
  | readAnswerFfff
  /-- WRITE_TAKEN (R4): the received write in the block buffer is taken. -/
  | writeTaken
  /-- EMITTER_SEND (R12): the emitter starts the transaction at the head of the emission list. -/
  | emitterSend
  /-- TRANSACTION_SENT (R12): the last data word has gone and DLEN rises. -/
  | transactionSent
  /-- WRITE_GATE_RISE (R82): the sample that completes a rise of WGA or WGB. -/
  | writeGateRise (x : Side)
  /-- WRITE_GATE_FALL (R84): the sample that completes a fall of WGA or WGB. -/
  | writeGateFall (x : Side)
  /-- SERVO_GATE_RISE (R87): the sample that completes a rise of SGA or SGB. -/
  | servoGateRise (x : Side)
  /-- SERVO_GATE_FALL (R64): the sample that completes a fall of SGA or SGB. -/
  | servoGateFall (x : Side)
  /-- FRZ_RISE (R150): the sample that completes a rise of FRZ. -/
  | frzRise
  /-- FRZ_FALL (R153): the sample that completes a fall of FRZ. -/
  | frzFall
  /-- ARBITER_START (R103): the arbiter starts a computation. -/
  | arbiterStart
  /-- COMPUTATION_END (R105): the running computation ends and is delivered. -/
  | computationEnd
  /-- LEAD_EXPIRY (R79): the lead timer of a channel reaches 0. -/
  | leadExpiry (x : Side)
  /-- KICK_EXPIRY (R83): the kick timer of a channel reaches 0. -/
  | kickExpiry (x : Side)
  /-- DWELL_EXPIRY (R147): the dwell counter of a channel reaches 0. -/
  | dwellExpiry (x : Side)
  /-- THERMAL_EXPIRY (R118): the thermal interval counter reaches 0. -/
  | thermalExpiry
  /-- SLOT_START (R133): an 80 ns slot of the laser bus starts. The row has no operand; by default the slot start is
  taken whole. -/
  | slotStart (part : SlotPart := .whole)
  /-- LOAD_N_FALL (R169): LOAD_N falls. -/
  | loadNFall
  /-- LOAD_WORD (R168): the sixteenth bit of an image word has been clocked. -/
  | loadWord (w : Word)
  /-- LOAD_N_RISE (R170): LOAD_N rises. -/
  | loadNRise
  /-- RST_N_ASSERT (R19): RST_N is asserted. -/
  | rstNAssert
  /-- RST_N_RELEASE (R124): RST_N is released. -/
  | rstNRelease
  /-- GATE_SAMPLE (R61): one 10 ns sample of the five gate inputs. -/
  | gateSample (samples : GateSamples)
  /-- LOAD_PORT_ARMED (R168): the first sample after RST_N at which LOAD_N reads high. -/
  | loadPortArmed
  deriving DecidableEq, Repr

end Sys2Proof
end

