-- ==== Sys2Proof/Decode.lean ====
section
/-!
DEFINITION. The commands that a word spells. spec/opcode_table.json gives no row any bits: the rows are steps of the
part (edges, expiries, slots, words clocked), not encoded instructions, so no word spells a command.
-/

namespace Sys2Proof

/-- The command spelled by a table word: none, since no row of spec/opcode_table.json has bits. -/
def decodeTableWord (_nbits _w : Nat) : Option Instr := none

end Sys2Proof
end

