-- ==== Sys2Proof/Config.lean ====
section
/-!
DEFINITION. The sizes that the manual fixes for every 4620. Nothing here is free: the manual leaves no value of a
command open, so there is no free value of the model to declare (NOTES.md, '## Assumptions').
-/

namespace Sys2Proof.Config

/-- The block buffer holds at most 16 data words (R5). -/
abbrev blockCapacity : Nat := 16

/-- The held-write queue holds at most 8 entries (R36). -/
abbrev heldCapacity : Nat := 8

/-- The emission list holds at most 40 data words (R8). -/
abbrev emissionCapacity : Nat := 40

/-- The report queue holds at most 16 records (R163). -/
abbrev reportCapacity : Nat := 16

/-- The image is 205 words (R175). -/
abbrev imageWords : Nat := 205

/-- The heat accumulator saturates at 65535 (R118). -/
abbrev heatMax : Nat := 65535

/-- The episode record's write interval count saturates at 255 (R95). -/
abbrev intervalsMax : Nat := 255

/-- The episode record's duration saturates at 65535 frames (R95). -/
abbrev durationMax : Nat := 65535

/-- The gate qualification length after RST_N (R62). -/
abbrev resetQ : Nat := 16

end Sys2Proof.Config
end

