-- ==== Sys2Proof/Machine/State.lean ====
section
/-!
DEFINITION. The whole state of the 4620 as plain data, block by block, its reset, and the reasons a step can stop.
Every field cites the rule that names it; INVENTORY.md, '## State', lists them all with their reset values.
-/

namespace Sys2Proof.Machine

/-! ## Configuration state (chapter 13) -/

/-- The configuration state (R169, R170, R171). -/
inductive ConfigState where
  | unconfigured
  | loading
  | configured
  deriving DecidableEq, Repr

/-- The loader (chapter 13, table of the loader's state). The word count is the length of the image buffer (R168). -/
structure Loader where
  /-- UNCONFIGURED, LOADING or CONFIGURED. -/
  config : ConfigState
  /-- LOAD_N has been seen high since RST_N was released (R168). -/
  armed : Bool
  /-- The words stored in this load, at most 205, position 0 first (R168). -/
  buffer : List Word
  /-- The bits of the word being clocked, 0–15 of them, high bit first (R168). No row of the table clocks a single
  bit, so it is empty between commands (assumption log 3). -/
  partialWord : List Bool
  deriving DecidableEq, Repr

/-! ## Control link (chapter 1) -/

/-- A downstream write transaction of the emission list (R8). -/
structure Txn where
  toA : Bool
  toB : Bool
  kept : BitVec 6
  addr : RegAddr
  words : List Word
  deriving DecidableEq, Repr

/-- A received write in the block buffer (R3, R5): its first 16 data words, and whether it carried more. -/
structure BlockWrite where
  toA : Bool
  toB : Bool
  kept : BitVec 6
  addr : RegAddr
  words : List Word
  overlong : Bool
  deriving DecidableEq, Repr

/-- How far an upstream read has got (R13, R15). -/
inductive ReadPhase where
  /-- Not forwarded: every word is answered with 0xFFFF until ULEN rises (R15). -/
  | answered
  /-- To be forwarded, waiting for the emission list to be empty; DLEN has not fallen for it (R13, R16). -/
  | waiting
  /-- Forwarded: DLEN has fallen and the downstream link belongs to the read (R13). -/
  | forwarded
  deriving DecidableEq, Repr

/-- An upstream read in progress; `addr` is the address of its next data word (R1). -/
structure ReadTxn where
  toA : Bool
  toB : Bool
  kept : BitVec 6
  addr : RegAddr
  phase : ReadPhase
  deriving DecidableEq, Repr

/-- The upstream transaction. -/
inductive Upstream where
  /-- ULEN is high: no transaction. -/
  | closed
  /-- ULEN is low and a transaction is open; no read header is complete. -/
  | opened
  /-- ULEN is low and a read is in progress. -/
  | reading (r : ReadTxn)
  /-- ULEN is low, but it was already low when RST_N was released (or fell under RST_N): the transaction is
  ignored until ULEN rises (R19). -/
  | ignored
  deriving DecidableEq, Repr

/-- The link forwarder. -/
structure Link where
  upstream : Upstream
  /-- ULWT asserted (R2). -/
  ulwt : Bool
  /-- The word driven on ULDA in a read, the last one handed upstream; `none` while ULDA is not driven. -/
  ulda : Option Word
  /-- The block buffer: `none` is free (R4). -/
  buffer : Option BlockWrite
  /-- The emission list, head first (R8). -/
  emission : List Txn
  /-- The emitter is sending the transaction at the head of the list: DLEN is low for it (R12). -/
  sending : Bool
  /-- The words clocked on DLDA by the 4620 in the downstream transaction most recently started, header first (R12, R13). -/
  dlda : List Word
  deriving DecidableEq, Repr

/-! ## Capture map (chapter 2) -/

/-- The five kinds of window (R20). -/
inductive WindowKind where
  | control
  | threshold
  | operating
  | faultStatus
  | faultInject
  deriving DecidableEq, Repr

/-- How the head of a value-window word is found (R20, R28). -/
inductive HeadBase where
  | base (b : Fin 12)
  | selected
  deriving DecidableEq, Repr

/-- An extractor: lowest bit 0–15 and width 1–16 (R24). -/
structure Extractor where
  low : Nat
  width : Nat
  deriving DecidableEq, Repr

/-- One window of the capture map (R20). -/
structure Window where
  enabled : Bool
  memberA : Bool
  memberB : Bool
  first : RegAddr
  last : RegAddr
  kind : WindowKind
  /-- The protect field: `true` is HOLD, `false` is NONE. -/
  hold : Bool
  headBase : HeadBase
  ext1 : Extractor
  ext2 : Extractor
  deriving DecidableEq, Repr

/-- The arm field of the preamplifier shadow (R25). -/
inductive ShadowArm where
  | set
  | clear
  | unknown
  deriving DecidableEq, Repr

/-- The preamplifier shadow of one preamplifier (R25); a selected head of `none` is UNKNOWN. -/
structure Shadow where
  head : Option (Fin 16)
  arm : ShadowArm
  deriving DecidableEq, Repr

/-! ## Held writes (chapter 3) -/

/-- One entry of the held-write queue (R36). -/
structure HeldEntry where
  side : Side
  reg : RegAddr
  value : Word
  window : Fin 16
  head : Fin 12
  deriving DecidableEq, Repr

/-! ## Head table (chapter 4) -/

/-- The image part of a head record (R50). -/
structure HeadImage where
  enabled : Bool
  /-- C, the ceiling. -/
  ceiling : Nat
  /-- Kd, the kick delta. -/
  kickDelta : Nat
  /-- Lk, the kick length in slots. -/
  kickLength : Nat
  /-- pf, the preheat fraction in sixteenths. -/
  preheatFraction : Nat
  /-- Lb, the lead base in slots. -/
  leadBase : Nat
  /-- Lf, the lead floor in slots. -/
  leadFloor : Nat
  /-- k, the thermal gain. -/
  thermalGain : Nat
  /-- lc, the lead credit. -/
  leadCredit : Nat
  deriving DecidableEq, Repr

/-- One record of the head table (R49): image part, captured part (`none` is ABSENT, R52), thermal part (R55). -/
structure HeadRecord where
  image : HeadImage
  /-- T, the threshold code. -/
  threshold : Option Nat
  /-- O, the operating code. -/
  operating : Option Nat
  /-- H, the heat accumulator. -/
  heat : Nat
  deriving DecidableEq, Repr

/-! ## Gate lines (chapter 5) -/

/-- A gate qualifier (R61): the qualified level (`true` is HIGH) and the run count. -/
structure Qualifier where
  level : Bool
  run : Nat
  deriving DecidableEq, Repr

/-- The five qualifiers and the qualification length Q (R61, R62). -/
structure Gates where
  q : Nat
  wg : PerSide Qualifier
  sg : PerSide Qualifier
  frz : Qualifier
  deriving DecidableEq, Repr

/-! ## Heat channels (chapter 6) -/

/-- The eight channel states (chapter 6). -/
inductive ChanState where
  | idle
  | pending
  | preheat
  | ready
  | writing
  | holding
  | faulted
  | frozen
  deriving DecidableEq, Repr

/-- A plan (R71): P, S, K, K2 and L. -/
structure Plan where
  /-- P, the preheat level. -/
  preheat : Nat
  /-- S, the sustain level. -/
  sustain : Nat
  /-- K, the kick level. -/
  kick : Nat
  /-- K2, the re-kick level. -/
  rekick : Nat
  /-- L, the lead length in slots. -/
  lead : Nat
  deriving DecidableEq, Repr

/-- A lead or kick timer (R71). A count of 0 is a timer that has reached 0 and whose expiry is not taken yet. -/
inductive Timer where
  | stopped
  | waiting
  | counting (slots : Nat)
  deriving DecidableEq, Repr

/-- The episode record under construction (R71, R95). -/
structure EpisodeRecord where
  intervals : Nat
  peak : Nat
  duration : Nat
  early : Bool
  lenient : Bool
  reduced : Bool
  overlap : Bool
  deriving DecidableEq, Repr

/-- A heat channel (R71). -/
structure Channel where
  state : ChanState
  /-- The episode head. -/
  head : Fin 12
  /-- The episode number, 0–255. -/
  episode : BitVec 8
  /-- The live bank; `none` is EMPTY. -/
  live : Option Plan
  /-- The staged bank; `none` is EMPTY. -/
  staged : Option Plan
  firstInterval : Bool
  kickFlag : Bool
  leadTimer : Timer
  kickTimer : Timer
  /-- The dwell counter: `none` is stopped. A count of 0 is one that has reached 0 at the frame start just delivered
  and whose expiry is not taken yet (R147). -/
  dwell : Option Nat
  record : EpisodeRecord
  deriving DecidableEq, Repr

/-! ## Plan engine (chapter 7) -/

/-- The class of a request, a computation and a result (R99). -/
inductive ReqClass where
  | arm
  | recompute
  deriving DecidableEq, Repr

/-- The ten inputs of the arithmetic (R104, R107). -/
structure PlanInputs where
  t : Nat
  o : Nat
  c : Nat
  kd : Nat
  pf : Nat
  k : Nat
  lb : Nat
  lf : Nat
  lc : Nat
  h : Nat
  deriving DecidableEq, Repr

/-- The running computation (chapter 7, table of the engine's state). Its end time is COMPUTATION_END's own moment. -/
structure Computation where
  side : Side
  cls : ReqClass
  tag : BitVec 8
  inputs : PlanInputs
  deriving DecidableEq, Repr

/-- The plan engine. -/
structure Engine where
  /-- `none` is FREE. -/
  unit : Option Computation
  /-- The request places; `none` is EMPTY (R99). -/
  place : PerSide (Option ReqClass)
  /-- The last-served marker (R103). -/
  lastServed : Side
  deriving DecidableEq, Repr

/-! ## Thermal model (chapter 8) -/

/-- The thermal model's parameters and interval counter (R115). -/
structure Thermal where
  /-- I, the interval in frames. -/
  interval : Nat
  /-- d, the decay in 256ths. -/
  decay : Nat
  /-- g, the energy gain in 16ths. -/
  gain : Nat
  /-- The interval counter: `none` is stopped. A count of 0 is one that has reached 0 at the frame start just
  delivered and whose expiry is not taken yet (R116). -/
  counter : Option Nat
  /-- The model's own: the expiry of the next frame start has been taken ahead of that frame's slot-0 word (R120),
  so that frame start is not counted again. -/
  takenEarly : Bool
  deriving DecidableEq, Repr

/-! ## Laser bus (chapter 9) -/

/-- The owner of a slot (R129). -/
inductive SlotOwner where
  | none
  | chan (x : Side)
  | report
  deriving DecidableEq, Repr

/-- The model's own: how far the slot starts have been taken (R124, R125, R131; assumption log 21). -/
inductive SlotSplit where
  /-- The running slot's start has been taken whole, and nothing of the next one. -/
  | whole
  /-- The event of the next slot start (slot 0's frame start, slot 1's fix of the map) has been taken ahead of that
  slot's word. -/
  | eventTaken
  /-- The word of the running slot 0 has been sent ahead of its frame start, which is still to be taken. -/
  | frameOwed
  deriving DecidableEq, Repr

/-- The framer (chapter 9, table of the framer's state). -/
structure Framer where
  /-- The slot of the current frame that is running; `none` before the first slot after RST_N (R124, R139). -/
  slot : Option (Fin 8)
  baseMap : Vector SlotOwner 8
  effectiveMap : Vector SlotOwner 8
  /-- The emitted levels (R137). -/
  level : PerSide Nat
  /-- The emitted heads (R137). -/
  head : PerSide (Fin 12)
  /-- The urgent OFF flags (R132). -/
  urgent : PerSide Bool
  /-- The word held on LBDA (R124). -/
  lbda : Word
  /-- The destination held on LBDS: bit 0 A, bit 1 B, bit 2 the drive controller (R173). -/
  lbds : BitVec 3
  /-- The model's own: whether the event of a slot start has been taken apart from its word (assumption log 21). -/
  split : SlotSplit
  deriving DecidableEq, Repr

/-! ## Freeze (chapter 11) -/

/-- The freeze mode (R149). -/
inductive FreezeMode where
  | run
  | soft
  | hard
  deriving DecidableEq, Repr

/-- The freeze logic (chapter 11, table of the freeze logic's state). -/
structure Freeze where
  mode : FreezeMode
  active : Bool
  wait : PerSide Bool
  frozenEpisode : PerSide Bool
  deriving DecidableEq, Repr

/-- The early gate policy (R81). -/
inductive EarlyPolicy where
  | strict
  | lenient
  deriving DecidableEq, Repr

/-! ## Events, reports and link watch (chapter 12) -/

/-- The fifteen event kinds (R155), in the order of their codes 1–15. -/
inductive EventKind where
  | imageBad
  | servoOverlap
  | dwellLimit
  | headChangeActive
  | disarmWhileWriting
  | earlyGate
  | noCalibration
  | headDisabled
  | badHead
  | budgetShort
  | setpointClamp
  | holdOverflow
  | overlongBlock
  | reportOverflow
  | frozenEpisode
  deriving DecidableEq, Repr

/-- The event unit: the pending set of each preamplifier, in code order with no kind twice (R155), and the event
mask word (R157, R175). -/
structure EventUnit where
  kinds : PerSide (List EventKind)
  mask : BitVec 16
  deriving DecidableEq, Repr

/-- The outcome of an episode (R93). -/
inductive EpisodeOutcome where
  | complete
  | unused
  | abortHeadChange
  | abortDisarm
  | dwell
  | frozen
  | reload
  deriving DecidableEq, Repr

/-- The disposition of a write word for one preamplifier (R7). -/
inductive Disposition where
  | forward
  | hold
  | coalesce
  | drop
  deriving DecidableEq, Repr

/-- The disposition field of a TRACE record (R167). -/
inductive TraceDisposition where
  | write (d : Disposition)
  | read
  deriving DecidableEq, Repr

/-- A record of the report queue (R163): EPISODE (R94), EVENT (R156) or TRACE (R167). -/
inductive Report where
  | episode (x : Side) (number : BitVec 8) (head : Fin 12) (outcome : EpisodeOutcome) (record : EpisodeRecord)
  | event (p : Side) (kind : EventKind) (injected again masked : Bool) (number : BitVec 8)
  | trace (entry : Fin 4) (p : Side) (addr : RegAddr) (disposition : TraceDisposition) (word : Word)
  deriving DecidableEq, Repr

/-- The report queue: its records, head first, and how many words of the head record have been sent (R163, R165). -/
structure ReportQueue where
  records : List Report
  sent : Nat
  deriving DecidableEq, Repr

/-- The direction field of a watch entry (R166). -/
inductive WatchDirection where
  | write
  | read
  | both
  deriving DecidableEq, Repr

/-- One entry of the link watch (R166). -/
structure WatchEntry where
  enabled : Bool
  memberA : Bool
  memberB : Bool
  addr : RegAddr
  ignoreLow : Nat
  direction : WatchDirection
  deriving DecidableEq, Repr

/-! ## The whole machine -/

/-- The state of the 4620. -/
structure State where
  /-- The commands that are waiting, first in, first out (the queue of the block's interface). -/
  pending : List Instr
  /-- RST_N is asserted. -/
  rst : Bool
  loader : Loader
  link : Link
  windows : Vector Window 16
  shadow : PerSide Shadow
  /-- The held-write queue, head first (R36). -/
  held : List HeldEntry
  /-- The head table: twelve records for each actuator (R49). -/
  heads : PerSide (Vector HeadRecord 12)
  gates : Gates
  chan : PerSide Channel
  engine : Engine
  thermal : Thermal
  framer : Framer
  /-- B, the supply budget (R140). -/
  budget : Nat
  /-- D, the dwell limit in frames (R146). -/
  dwellLimit : Nat
  earlyPolicy : EarlyPolicy
  freeze : Freeze
  events : EventUnit
  reports : ReportQueue
  watch : Vector WatchEntry 4
  /-- Outside the part: the drive level each preamplifier keeps for each of its heads (R128). -/
  drives : PerSide (Vector Nat 12)
  deriving DecidableEq, Repr

/-! ## Reset -/

/-- A disabled window (R22). Its other fields have no effect; the manual gives them no value (assumption log 7). -/
def Window.disabled : Window where
  enabled := false
  memberA := false
  memberB := false
  first := 0
  last := 0
  kind := .control
  hold := false
  headBase := .base 0
  ext1 := ⟨0, 1⟩
  ext2 := ⟨0, 1⟩

/-- A disabled watch entry (R166). Its other fields have no effect (assumption log 7). -/
def WatchEntry.disabled : WatchEntry where
  enabled := false
  memberA := false
  memberB := false
  addr := 0
  ignoreLow := 0
  direction := .write

/-- A head record under RST_N (R60). -/
def HeadRecord.reset : HeadRecord where
  image := ⟨false, 0, 0, 0, 0, 0, 0, 0, 0⟩
  threshold := none
  operating := none
  heat := 0

/-- The episode record as an accepted arm and RST_N clear it (R71, R73). -/
def EpisodeRecord.cleared : EpisodeRecord := ⟨0, 0, 0, false, false, false, false⟩

/-- A heat channel under RST_N (R71, R96). -/
def Channel.reset : Channel where
  state := .idle
  head := 0
  episode := 0
  live := none
  staged := none
  firstInterval := false
  kickFlag := false
  leadTimer := .stopped
  kickTimer := .stopped
  dwell := none
  record := .cleared

/-- The shadow of a preamplifier about which nothing is known (R25). -/
def Shadow.unknown : Shadow := ⟨none, .unknown⟩

/-- The link forwarder after RST_N with ULEN high (R19). -/
def Link.reset : Link where
  upstream := .closed
  ulwt := false
  ulda := none
  buffer := none
  emission := []
  sending := false
  dlda := []

/-- The framer under RST_N (R139). -/
def Framer.reset : Framer where
  slot := none
  baseMap := Vector.replicate 8 .none
  effectiveMap := Vector.replicate 8 .none
  level := .both 0
  head := .both 0
  urgent := .both false
  lbda := 0
  lbds := 0
  split := .whole

/-- The machine right after reset: RST_N has just been released, nothing has been sampled, no slot has begun, no
command waits, and every block holds its "After RST_N" values (R19, R22, R25, R36, R60, R62, R69, R71, R102, R115,
R129, R139, R140, R146, R149, R157, R162, R165, R166, R168). -/
def State.reset : State where
  pending := []
  rst := false
  loader := ⟨.unconfigured, false, [], []⟩
  link := .reset
  windows := Vector.replicate 16 .disabled
  shadow := .both .unknown
  held := []
  heads := .both (Vector.replicate 12 .reset)
  gates := ⟨Config.resetQ, .both ⟨false, 0⟩, .both ⟨false, 0⟩, ⟨false, 0⟩⟩
  chan := .both .reset
  engine := ⟨none, .both none, .a⟩
  thermal := ⟨0, 0, 0, none, false⟩
  framer := .reset
  budget := 0
  dwellLimit := 0
  earlyPolicy := .strict
  freeze := ⟨.run, false, .both false, .both false⟩
  events := ⟨.both [], 0⟩
  reports := ⟨[], 0⟩
  watch := Vector.replicate 4 .disabled
  drives := .both (Vector.replicate 12 0)

/-! ## Why a step can stop -/

/-- The faults of the machine: none. The manual names no condition that stops the 4620 (every refusal of the part is
an event record, a FAULTED channel or an 0xFFFF answer, all of them next states), so this type has no constructor
and no step can fault. -/
inductive Fault where
  deriving DecidableEq, Repr

/-- The refusals of the model. -/
inductive Refusal where
  /-- Raised only by `exec`, for a row of the opcode table that the model gives no meaning. No row is left so, and
  no step answers it. Safe: the run stops. -/
  | notModelled (mnemonic : String)
  deriving DecidableEq, Repr

end Sys2Proof.Machine
end

