-- ==== Sys2Proof/Machine/Operands.lean ====
section
/-!
DEFINITION. Every layout the outside sees (chapter 13, section 13.4), both ways where the part both reads and builds
it: control-link headers, extractor fields, laser bus words, report records; and the decoding and clamping of the
configuration image (R172, R175).
-/

namespace Sys2Proof.Machine

/-- The number in bits `low`, `low`+1, … of a word, `width` bits wide (bit 0 is the least significant, R24). -/
def bitField (w : Word) (low width : Nat) : Nat := w.toNat / 2 ^ low % 2 ^ width

/-- One bit of a word. -/
def bitAt (w : Word) (n : Nat) : Bool := bitField w n 1 = 1

/-- A Bool as a bit of a layout: 1 for `true`. -/
def bitOf (b : Bool) : Nat := if b then 1 else 0

/-! ## Control-link headers (R1, R173) -/

/-- What the 4620 takes from a header (R1). -/
structure Header where
  read : Bool
  toA : Bool
  toB : Bool
  kept : BitVec 6
  addr : RegAddr
  deriving DecidableEq, Repr

/-- Read a header word (R173). -/
def decodeHeader (w : Word) : Header where
  read := bitAt w 15
  toB := bitAt w 14
  toA := bitAt w 13
  kept := BitVec.ofNat 6 (bitField w 7 6)
  addr := BitVec.ofNat 7 (bitField w 0 7)

/-- Build a header word (R173). -/
def encodeHeader (h : Header) : Word :=
  BitVec.ofNat 16 (bitOf h.read * 2 ^ 15 + bitOf h.toB * 2 ^ 14 + bitOf h.toA * 2 ^ 13 + h.kept.toNat * 2 ^ 7
    + h.addr.toNat)

/-- The header word of a downstream write transaction (R8). -/
def txnHeader (t : Txn) : Word := encodeHeader ⟨false, t.toA, t.toB, t.kept, t.addr⟩

/-- The header word of the downstream read of a forwarded read (R13). -/
def readHeaderWord (r : ReadTxn) : Word := encodeHeader ⟨true, r.toA, r.toB, r.kept, r.addr⟩

/-- Whether a side is in a target set given by its two target bits. -/
def targets (toA toB : Bool) : Side → Bool
  | .a => toA
  | .b => toB

/-! ## Extractors (R24) -/

/-- The effective width: a field that would run past bit 15 is cut off there (R24). -/
def Extractor.effectiveWidth (e : Extractor) : Nat := min e.width (16 - e.low)

/-- The field value an extractor takes from a word (R24). -/
def Extractor.value (e : Extractor) (w : Word) : Nat := bitField w e.low e.effectiveWidth

/-- Replace the field of an extractor by the low bits of `v`; the bits outside the field stay (R24). -/
def Extractor.replace (e : Extractor) (w : Word) (v : Nat) : Word :=
  let ones : Word := BitVec.ofNat 16 ((2 ^ e.effectiveWidth - 1) * 2 ^ e.low)
  (w &&& ~~~ones) ||| (BitVec.ofNat 16 (v * 2 ^ e.low) &&& ones)

/-! ## Laser bus words (R127, R173) -/

/-- A LEVEL word: 01, head, level. -/
def levelWord (head : Fin 12) (level : Nat) : Word :=
  BitVec.ofNat 16 (1 * 2 ^ 14 + head.val * 2 ^ 10 + level % 2 ^ 10)

/-- An ALL_OFF word: 10 and zeros. -/
def allOffWord : Word := BitVec.ofNat 16 (2 * 2 ^ 14)

/-- An IDLE word: zeros (R127). -/
def idleWord : Word := 0

/-- The destination of one preamplifier: bit 0 for A, bit 1 for B (R173). -/
def destOf : Side → BitVec 3
  | .a => 1
  | .b => 2

/-- The destination {A, B} of ALL_OFF (R126). -/
def destBoth : BitVec 3 := 3

/-- The destination {C} of REPORT: the drive controller (R126). -/
def destController : BitVec 3 := 4

/-- No destination (R126). -/
def destNone : BitVec 3 := 0

/-- Whether a destination names a preamplifier (R126). -/
def destNames (d : BitVec 3) : Side → Bool
  | .a => d.getLsbD 0
  | .b => d.getLsbD 1

/-- What a preamplifier that latches a laser bus word does to the drive levels of its heads: a LEVEL word sets the
named head's level, an ALL_OFF word sets every head's to 0 (R128). -/
def latchWord (w : Word) (drive : Vector Nat 12) : Vector Nat 12 :=
  if bitField w 14 2 = 1 then
    Vector.ofFn fun h => if h.val = bitField w 10 4 then bitField w 0 10 else drive[h]
  else if bitField w 14 2 = 2 then Vector.replicate 12 0
  else drive

/-! ## Report records (R174) -/

/-- A channel, preamplifier or target field: 0 for A and 1 for B (R174). -/
def sideBit : Side → Nat
  | .a => 0
  | .b => 1

/-- The outcome field of an EPISODE record (R174). -/
def EpisodeOutcome.code : EpisodeOutcome → Nat
  | .complete => 0
  | .unused => 1
  | .abortHeadChange => 2
  | .abortDisarm => 3
  | .dwell => 4
  | .frozen => 5
  | .reload => 6

/-- The code of an event kind (R155). -/
def EventKind.code : EventKind → Nat
  | .imageBad => 1
  | .servoOverlap => 2
  | .dwellLimit => 3
  | .headChangeActive => 4
  | .disarmWhileWriting => 5
  | .earlyGate => 6
  | .noCalibration => 7
  | .headDisabled => 8
  | .badHead => 9
  | .budgetShort => 10
  | .setpointClamp => 11
  | .holdOverflow => 12
  | .overlongBlock => 13
  | .reportOverflow => 14
  | .frozenEpisode => 15

/-- The direction bit of a TRACE record: 0 WRITE, 1 READ (R174). -/
def TraceDisposition.directionBit : TraceDisposition → Nat
  | .write _ => 0
  | .read => 1

/-- The disposition field of a TRACE record (R174). -/
def TraceDisposition.code : TraceDisposition → Nat
  | .write .forward => 0
  | .write .hold => 1
  | .write .coalesce => 2
  | .write .drop => 3
  | .read => 4

/-- The words of a record, in the order they are sent (R174): four for EPISODE, two for EVENT, three for TRACE. -/
def Report.words : Report → List Word
  | .episode x number head outcome r =>
    [BitVec.ofNat 16 (1 * 2 ^ 14 + sideBit x * 2 ^ 13 + outcome.code * 2 ^ 10 + head.val * 2 ^ 6
        + bitOf r.early * 2 ^ 3 + bitOf r.lenient * 2 ^ 2 + bitOf r.reduced * 2 ^ 1 + bitOf r.overlap),
      BitVec.ofNat 16 (number.toNat * 2 ^ 8 + r.intervals % 2 ^ 8),
      BitVec.ofNat 16 (r.peak % 2 ^ 10),
      BitVec.ofNat 16 r.duration]
  | .event p kind injected again masked number =>
    [BitVec.ofNat 16 (2 * 2 ^ 14 + sideBit p * 2 ^ 13 + kind.code * 2 ^ 9 + bitOf injected * 2 ^ 8
        + bitOf again * 2 ^ 7 + bitOf masked * 2 ^ 6),
      BitVec.ofNat 16 (number.toNat * 2 ^ 8)]
  | .trace entry p addr disposition word =>
    [BitVec.ofNat 16 (3 * 2 ^ 14 + entry.val * 2 ^ 12 + sideBit p * 2 ^ 11 + disposition.directionBit * 2 ^ 10
        + addr.toNat),
      BitVec.ofNat 16 disposition.code,
      word]

/-! ## The configuration image (R172, R175) -/

/-- The word of the image at a position. -/
def imageWord (image : List Word) (n : Nat) : Word := image.getD n 0

/-- Q: below 2 becomes 2, above 16 becomes 16 (R172). -/
def clampQ (n : Nat) : Nat := min (max n 2) 16

/-- The thermal interval I, the dwell limit and the lead base Lb: 0 becomes 1 (R172). -/
def clampNonzero (n : Nat) : Nat := max n 1

/-- The freeze mode: code 3 is taken as HARD (R172). -/
def decodeFreezeMode (n : Nat) : FreezeMode :=
  if n = 0 then .run else if n = 1 then .soft else .hard

/-- The early gate policy (R172). -/
def decodeEarlyPolicy (n : Nat) : EarlyPolicy := if n = 0 then .strict else .lenient

/-- A slot owner: 0 NONE, 1 CH_A, 2 CH_B, 3 REPORT (R175). -/
def decodeOwner (n : Nat) : SlotOwner :=
  if n = 0 then .none else if n = 1 then .chan .a else if n = 2 then .chan .b else .report

/-- The slot map word: bits 2s+1 and 2s give slot s (R175). -/
def decodeSlotMap (w : Word) : Vector SlotOwner 8 := Vector.ofFn fun s => decodeOwner (bitField w (2 * s.val) 2)

/-- The kind code of a window; 5–7 name no kind (R21, R175). -/
def decodeKind (n : Nat) : Option WindowKind :=
  if n = 0 then some .control
  else if n = 1 then some .threshold
  else if n = 2 then some .operating
  else if n = 3 then some .faultStatus
  else if n = 4 then some .faultInject
  else none

/-- The head base code: 0–11 bases, 12–15 SELECTED (R21, R172). -/
def decodeHeadBase (n : Nat) : HeadBase := if h : n < 12 then .base ⟨n, h⟩ else .selected

/-- An extractor word: bits 7–4 the lowest bit, bits 3–0 the width less 1 (R175). -/
def decodeExtractor (w : Word) : Extractor := ⟨bitField w 4 4, bitField w 0 4 + 1⟩

/-- A window from its four words, disabled when its first register is above its last, its preamplifier set is empty
or its kind code names no kind (R21, R175). -/
def decodeWindow (w1 w2 w3 w4 : Word) : Window :=
  let first := BitVec.ofNat 7 (bitField w1 0 7)
  let last := BitVec.ofNat 7 (bitField w2 0 7)
  let memberA := bitAt w1 13
  let memberB := bitAt w1 14
  let kind := decodeKind (bitField w1 10 3)
  { enabled := bitAt w1 15 && first.toNat ≤ last.toNat && (memberA || memberB) && kind.isSome
    memberA := memberA
    memberB := memberB
    first := first
    last := last
    kind := kind.getD .control
    hold := bitAt w1 9
    headBase := decodeHeadBase (bitField w2 8 4)
    ext1 := decodeExtractor w3
    ext2 := decodeExtractor w4 }

/-- The image part of a head record from its five words, with the clamps of R50: pf to at most 16, Lb to at least 1,
and then Lf to at most Lb. -/
def decodeHead (w1 w2 w3 w4 w5 : Word) : HeadImage :=
  let lb := clampNonzero (bitField w3 0 8)
  { enabled := bitAt w1 15
    ceiling := bitField w1 0 10
    kickDelta := bitField w2 8 8
    kickLength := bitField w2 0 6
    preheatFraction := min (bitField w3 8 5) 16
    leadBase := lb
    leadFloor := min (bitField w4 8 8) lb
    thermalGain := bitField w4 0 8
    leadCredit := bitField w5 0 8 }

/-- The direction of a watch entry; code 3 names none (R172). -/
def decodeDirection (n : Nat) : Option WatchDirection :=
  if n = 0 then some .write else if n = 1 then some .read else if n = 2 then some .both else none

/-- A watch entry from its two words, disabled when its direction code is 3 (R172, R175). -/
def decodeWatch (w1 w2 : Word) : WatchEntry :=
  let direction := decodeDirection (bitField w2 4 2)
  { enabled := bitAt w1 15 && direction.isSome
    memberA := bitAt w1 13
    memberB := bitAt w1 14
    addr := BitVec.ofNat 7 (bitField w1 0 7)
    ignoreLow := bitField w2 0 2
    direction := direction.getD .write }

/-- Window n of the image: four words from position 12 + 4n (R175). -/
def imageWindow (image : List Word) (n : Nat) : Window :=
  decodeWindow (imageWord image (12 + 4 * n)) (imageWord image (13 + 4 * n)) (imageWord image (14 + 4 * n))
    (imageWord image (15 + 4 * n))

/-- Head record n of the image, counted A0–A11 then B0–B11: five words from position 76 + 5n (R175). -/
def imageHead (image : List Word) (n : Nat) : HeadImage :=
  decodeHead (imageWord image (76 + 5 * n)) (imageWord image (77 + 5 * n)) (imageWord image (78 + 5 * n))
    (imageWord image (79 + 5 * n)) (imageWord image (80 + 5 * n))

/-- The place of a head's record among the image's 24 (R175). -/
def imageHeadIndex (x : Side) (h : Fin 12) : Nat := 12 * sideBit x + h.val

/-- Watch entry n of the image: two words from position 196 + 2n (R175). -/
def imageWatch (image : List Word) (n : Nat) : WatchEntry :=
  decodeWatch (imageWord image (196 + 2 * n)) (imageWord image (197 + 2 * n))

/-- The sum of the image's words modulo 65536 (R170). -/
def imageSum (image : List Word) : Nat := (image.map BitVec.toNat).sum % 65536

/-- The four tests of R170: 205 words stored, format word 1, length word 205, sum 0. -/
def imageValid (image : List Word) : Bool :=
  image.length = Config.imageWords && imageWord image 0 = 1#16 && imageWord image 1 = 205#16 && imageSum image = 0

end Sys2Proof.Machine
end

