-- ==== Sys2Proof/Machine/Flags.lean ====
section
/-!
DEFINITION. The status the outside sees: the event unit's pending sets, the fault line, the merged code, clear and
inject words (R155–R162), and the report queue with its overflow rule (R163, R164).
-/

namespace Sys2Proof.Machine

/-- The fifteen kinds in code order, that is in priority order (R155). -/
def EventKind.all : List EventKind :=
  [.imageBad, .servoOverlap, .dwellLimit, .headChangeActive, .disarmWhileWriting, .earlyGate, .noCalibration,
    .headDisabled, .badHead, .budgetShort, .setpointClamp, .holdOverflow, .overlongBlock, .reportOverflow,
    .frozenEpisode]

/-- The kind with a code (R155, R161); 0 and the values above 15 name none. -/
def EventKind.ofCode (n : Nat) : Option EventKind := EventKind.all.find? fun k => k.code = n

/-- Whether a kind is masked: its bit in the mask word, but never for IMAGE_BAD (R157, R175). -/
def isMasked (mask : BitVec 16) (k : EventKind) : Bool := k ≠ .imageBad && mask.getLsbD k.code

/-- Add a kind to a pending set; the set is kept in code order with no kind twice (R155). -/
def addKind (k : EventKind) (kinds : List EventKind) : List EventKind :=
  EventKind.all.filter fun j => j = k || kinds.contains j

/-- The merged code: the lowest code among the unmasked pending kinds, or 0 (R159). -/
def mergedCode (mask : BitVec 16) (kinds : List EventKind) : Nat :=
  match EventKind.all.find? fun k => kinds.contains k && !isMasked mask k with
  | some k => k.code
  | none => 0

/-- What a FAULT_STATUS read writes into a field of effective width `width` (R159): 1 or 0 in one bit; otherwise the
merged code, of which a 2- or 3-bit field takes the low bits. -/
def mergedField (code width : Nat) : Nat := if width = 1 then (if code = 0 then 0 else 1) else code % 2 ^ width

/-- What a clear word of value `v` and effective width `width` leaves of a pending set (R160). -/
def clearKinds (v width : Nat) (kinds : List EventKind) : List EventKind :=
  if v = 2 ^ width - 1 then [] else kinds.filter fun k => k.code ≠ v

/-- The 4620 pulls FLT_N low: some unmasked kind is pending for either preamplifier (R158). -/
def State.faultLow (s : State) : Bool :=
  EventKind.all.any fun k =>
    (s.events.kinds.a.contains k || s.events.kinds.b.contains k) && !isMasked s.events.mask k

/-! ## Named updates -/

/-- Replace the pending set of one preamplifier. -/
def State.setKinds (p : Side) (kinds : List EventKind) (s : State) : State :=
  { s with events := { s.events with kinds := s.events.kinds.set p kinds } }

/-- Replace the records of the report queue. -/
def State.setRecords (records : List Report) (s : State) : State :=
  { s with reports := { s.reports with records := records } }

/-! ## The report queue (R163, R164) -/

/-- Whether a record is the EVENT record of a REPORT_OVERFLOW, whose loss raises nothing further (R164). -/
def Report.isOverflow : Report → Bool
  | .event _ kind _ _ _ _ => kind = .reportOverflow
  | .episode _ _ _ _ _ => false
  | .trace _ _ _ _ _ => false

/-- REPORT_OVERFLOW raised for A and then for B against a full queue: both kinds become pending, and both EVENT
records are dropped without a further raise (R164). -/
def raiseOverflow (s : State) : State :=
  (s.setKinds .a (addKind .reportOverflow s.events.kinds.a)).setKinds .b
    (addKind .reportOverflow s.events.kinds.b)

/-- Queue a record at the tail, or drop it when 16 are held (R163, R164). -/
def queueReport (r : Report) (s : State) : State :=
  if s.reports.records.length < Config.reportCapacity then s.setRecords (s.reports.records ++ [r])
  else if r.isOverflow then s
  else raiseOverflow s

/-! ## Raises, clear words and inject words -/

/-- A raise of kind `k` for preamplifier `p` (R155, R156): the kind becomes pending and one EVENT record is queued,
with the repeat flag as the set stood before, the masked flag as the mask stands, and the number of the episode that
the preamplifier's channel holds. -/
def raiseEvent (p : Side) (k : EventKind) (injected : Bool) (s : State) : State :=
  queueReport
    (.event p k injected ((s.events.kinds.get p).contains k) (isMasked s.events.mask k) (s.chan.get p).episode)
    (s.setKinds p (addKind k (s.events.kinds.get p)))

/-- A clear word handed to the event unit (R160). -/
def clearWord (p : Side) (v width : Nat) (s : State) : State :=
  s.setKinds p (clearKinds v width (s.events.kinds.get p))

/-- An inject word handed to the event unit (R161). -/
def injectWord (p : Side) (v : Nat) (s : State) : State :=
  match EventKind.ofCode v with
  | some k => raiseEvent p k true s
  | none => s

end Sys2Proof.Machine
end

