-- ==== Sys2Proof/Machine/Ops.lean ====
section
/-!
DEFINITION. The named updates of State and the operations that several commands share: captures into the head table
(R53), the held-write queue (R37–R44), plan requests (R100, R101), the act of leaving the episode states (R92), the
channel's entry to its waiting states and to WRITING (R82, R84), the planned level (R72), the refusal and acceptance of
an arm (R73, R74) and the freeze logic's two edges (R150, R153).
-/

namespace Sys2Proof.Machine

/-! ## Named updates -/

/-- Replace one heat channel. -/
def State.setChan (x : Side) (c : Channel) (s : State) : State := { s with chan := s.chan.set x c }

/-- Change one heat channel by a function of it. -/
def State.modChan (x : Side) (f : Channel → Channel) (s : State) : State := s.setChan x (f (s.chan.get x))

/-- Replace one record of the head table. -/
def State.setHead (x : Side) (h : Fin 12) (r : HeadRecord) (s : State) : State :=
  { s with heads := s.heads.set x ((s.heads.get x).set h.val r) }

/-- Replace the plan request place of one channel. -/
def State.setPlace (x : Side) (p : Option ReqClass) (s : State) : State :=
  { s with engine := { s.engine with place := s.engine.place.set x p } }

/-- Replace the urgent OFF flag of one channel. -/
def State.setUrgent (x : Side) (b : Bool) (s : State) : State :=
  { s with framer := { s.framer with urgent := s.framer.urgent.set x b } }

/-- Replace the mark of how far the slot starts have been taken. -/
def State.setSplit (m : SlotSplit) (s : State) : State := { s with framer := { s.framer with split := m } }

/-- Replace the held-write queue. -/
def State.setHeld (held : List HeldEntry) (s : State) : State := { s with held := held }

/-- Replace the emission list. -/
def State.setEmission (emission : List Txn) (s : State) : State :=
  { s with link := { s.link with emission := emission } }

/-- Replace the freeze wait of one channel. -/
def State.setWait (x : Side) (b : Bool) (s : State) : State :=
  { s with freeze := { s.freeze with wait := s.freeze.wait.set x b } }

/-- Replace the frozen-episode flag of one channel. -/
def State.setFrozenEpisode (x : Side) (b : Bool) (s : State) : State :=
  { s with freeze := { s.freeze with frozenEpisode := s.freeze.frozenEpisode.set x b } }

/-! ## Reading the state -/

/-- The record of a head (R49). -/
def State.headRec (s : State) (x : Side) (h : Fin 12) : HeadRecord := (s.heads.get x)[h.val]

/-- The record of a channel's episode head. -/
def State.episodeRec (s : State) (x : Side) : HeadRecord := s.headRec x (s.chan.get x).head

/-- PENDING, PREHEAT, READY, WRITING and HOLDING are the episode states. -/
def ChanState.inEpisode : ChanState → Bool
  | .pending => true
  | .preheat => true
  | .ready => true
  | .writing => true
  | .holding => true
  | .idle => false
  | .faulted => false
  | .frozen => false

/-- WRITING or HOLDING: the states that a RECOMPUTE is for (R78, R119). -/
def ChanState.recomputes : ChanState → Bool
  | .writing => true
  | .holding => true
  | .idle => false
  | .pending => false
  | .preheat => false
  | .ready => false
  | .faulted => false
  | .frozen => false

/-- PREHEAT, READY or HOLDING: the states in which the dwell counter runs (R146). -/
def ChanState.dwells : ChanState → Bool
  | .preheat => true
  | .ready => true
  | .holding => true
  | .idle => false
  | .pending => false
  | .writing => false
  | .faulted => false
  | .frozen => false

/-- Channel x is in an episode state. -/
def State.inEpisode (s : State) (x : Side) : Bool := (s.chan.get x).state.inEpisode

/-- The part is CONFIGURED. -/
def State.configured (s : State) : Bool := s.loader.config = .configured

/-- The planned level of a channel (R72). The live bank holds a plan in every state that uses it, so the level 0
given for an EMPTY one is never used (assumption log 9). -/
def Channel.planned (c : Channel) : Nat :=
  match c.live with
  | none => 0
  | some p =>
    match c.state with
    | .idle => 0
    | .pending => 0
    | .faulted => 0
    | .frozen => 0
    | .preheat => p.preheat
    | .ready => p.preheat
    | .holding => p.preheat
    | .writing => if c.kickFlag then (if c.firstInterval then p.kick else p.rekick) else p.sustain

/-- The forwarded write gate WGx_O: high when the qualified WGx is HIGH and channel x is in WRITING (R66). -/
def State.gateOut (s : State) (x : Side) : Bool := (s.gates.wg.get x).level && (s.chan.get x).state = .writing

/-- DLEN is low: the emitter is sending, or a forwarded read holds the downstream link (R12, R13). -/
def State.dlenLow (s : State) : Bool :=
  s.link.sending ||
    (match s.link.upstream with
      | .reading r => r.phase = .forwarded
      | .closed => false
      | .opened => false
      | .ignored => false)

/-- LBFS is asserted throughout every slot 0 (R124). -/
def State.lbfs (s : State) : Bool := s.framer.slot = some 0

/-! ## Captures into the head table (R31, R53) -/

/-- Which code a value window carries (R28). -/
inductive CodeName where
  | threshold
  | operating
  deriving DecidableEq, Repr

/-- Store a code in a record, present from then on (R52). -/
def HeadRecord.withCode (r : HeadRecord) (n : CodeName) (v : Nat) : HeadRecord :=
  match n with
  | .threshold => { r with threshold := some v }
  | .operating => { r with operating := some v }

/-- A capture: the value is stored, clamped to the record's ceiling, and a clamp raises SETPOINT_CLAMP (R53). -/
def captureCode (x : Side) (h : Fin 12) (n : CodeName) (v : Nat) (s : State) : State :=
  let r := s.headRec x h
  if v ≤ r.image.ceiling then s.setHead x h (r.withCode n v)
  else raiseEvent x .setpointClamp false (s.setHead x h (r.withCode n r.image.ceiling))

/-- The code that a window's kind names: O for OPERATING, T for THRESHOLD. Only value windows are asked (R43). -/
def WindowKind.codeName : WindowKind → CodeName
  | .operating => .operating
  | .threshold => .threshold
  | .control => .threshold
  | .faultStatus => .threshold
  | .faultInject => .threshold

/-! ## The held-write queue (R36–R44) -/

/-- Whether an entry has the key (p, a). -/
def HeldEntry.hasKey (e : HeldEntry) (p : Side) (a : RegAddr) : Bool := e.side = p && e.reg = a

/-- The held entry with the key (p, a), if there is one (R41). -/
def State.heldFor (s : State) (p : Side) (a : RegAddr) : Option HeldEntry := s.held.find? fun e => e.hasKey p a

/-- Offer a word to the queue (R37–R39): coalesce into the entry with its key, moved to the tail; or make a new entry
at the tail; or drop the word and raise HOLD_OVERFLOW when 8 are held. -/
def offerHeld (p : Side) (i : Fin 16) (h : Fin 12) (a : RegAddr) (w : Word) (s : State) : State × Disposition :=
  match s.heldFor p a with
  | some e => (s.setHeld ((s.held.filter fun f => !f.hasKey p a) ++ [{ e with value := w }]), .coalesce)
  | none =>
    if s.held.length < Config.heldCapacity then (s.setHeld (s.held ++ [⟨p, a, w, i, h⟩]), .hold)
    else (raiseEvent p .holdOverflow false s, .drop)

/-- Capture one released entry through its stored window into its stored head's record (R43). -/
def captureEntry (s : State) (e : HeldEntry) : State :=
  let win := s.windows[e.window.val]
  captureCode e.side e.head win.kind.codeName (win.ext1.value e.value) s

/-- The one-word transaction of a released entry: target {p}, kept bits 0, the stored value (R44). -/
def HeldEntry.txn (e : HeldEntry) : Txn := ⟨e.side = .a, e.side = .b, 0, e.reg, [e.value]⟩

/-- Release all entries of preamplifier p: they leave the queue, are captured in queue order and are appended to the
emission list in queue order; the other preamplifier's entries stay (R42–R44). -/
def releaseHeld (p : Side) (s : State) : State :=
  let mine := s.held.filter fun e => e.side = p
  let s1 := mine.foldl captureEntry (s.setHeld (s.held.filter fun e => e.side ≠ p))
  s1.setEmission (s1.link.emission ++ mine.map HeldEntry.txn)

/-! ## Plan requests (R100, R101) -/

/-- Post a request to a channel's place: an EMPTY place takes it, and a RECOMPUTE merges with a RECOMPUTE (R100).
No other request meets a place that is not EMPTY. -/
def postRequest (x : Side) (c : ReqClass) (s : State) : State :=
  match s.engine.place.get x with
  | none => s.setPlace x (some c)
  | some .recompute => s.setPlace x (some c)
  | some .arm => s

/-! ## Leaving the episode states (R92–R94) -/

/-- The channel part of leaving: the state becomes the destination, every timer and the dwell counter stop, both
flags clear and both banks empty; head, number and record stay (R92, parts 1–3). -/
def Channel.left (c : Channel) (dest : ChanState) : Channel :=
  { c with
    state := dest
    live := none
    staged := none
    firstInterval := false
    kickFlag := false
    leadTimer := .stopped
    kickTimer := .stopped
    dwell := none }

/-- The EPISODE record of a channel as it stands (R94). -/
def Channel.report (x : Side) (outcome : EpisodeOutcome) (c : Channel) : Report :=
  .episode x c.episode c.head outcome c.record

/-- Leave the episode states in one act of five parts (R92): state and urgent OFF, timers and flags, banks and the
waiting request, the EPISODE record, the release of held writes. -/
def leaveEpisode (x : Side) (dest : ChanState) (outcome : EpisodeOutcome) (s : State) : State :=
  let c := s.chan.get x
  releaseHeld x <|
    queueReport (c.report x outcome) <|
      State.setPlace x none <|
        State.setUrgent x true <|
          s.setChan x (c.left dest)

/-! ## Entering channel states -/

/-- The actions of R84 on the channel: HOLDING, with the kick stopped, the first-interval flag clear and the dwell
counter loaded. -/
def Channel.toHolding (dwellLimit : Nat) (c : Channel) : Channel :=
  { c with
    state := .holding
    kickTimer := .stopped
    kickFlag := false
    firstInterval := false
    dwell := some dwellLimit }

/-- The actions of R82 on the channel: WRITING, the interval counted, the dwell counter stopped, and a kick begun when
Lk is 1 or more. -/
def Channel.toWriting (kickLength : Nat) (c : Channel) : Channel :=
  { c with
    state := .writing
    dwell := none
    kickFlag := decide (1 ≤ kickLength)
    kickTimer := if 1 ≤ kickLength then .waiting else .stopped
    record := { c.record with intervals := min (c.record.intervals + 1) Config.intervalsMax } }

/-- A channel enters WRITING, reading Lk of its episode head's record (R57, R82). -/
def enterWriting (x : Side) (s : State) : State := s.modChan x (Channel.toWriting (s.episodeRec x).image.kickLength)

/-- A channel goes from WRITING to HOLDING (R84). -/
def enterHolding (x : Side) (s : State) : State := s.modChan x (Channel.toHolding s.dwellLimit)

/-- An episode ended by the freeze: outcome FROZEN, destination FROZEN, the freeze wait clear and the frozen-episode
flag set (R150, R151). -/
def leaveFrozen (x : Side) (s : State) : State :=
  ((leaveEpisode x .frozen .frozen s).setWait x false).setFrozenEpisode x true

/-! ## Accepting and refusing an arm (R73–R75) -/

/-- The three checks of R73 on head `h`, in order: the event of the first that fails, or the valid head. -/
def checkArm (x : Side) (h : Fin 16) (s : State) : EventKind ⊕ Fin 12 :=
  if hv : h.val < 12 then
    let r := s.headRec x ⟨h.val, hv⟩
    if !r.image.enabled then .inl .headDisabled
    else if r.threshold.isNone || r.operating.isNone then .inl .noCalibration
    else .inr ⟨h.val, hv⟩
  else .inl .badHead

/-- The channel part of an accepted arm (R73): PENDING for the new head under the next episode number, with a cleared
record. -/
def Channel.armed (c : Channel) (h : Fin 12) : Channel :=
  { c with
    state := .pending
    head := h
    episode := c.episode + 1
    record := .cleared
    firstInterval := true
    kickFlag := false }

/-- A channel in IDLE takes an ARM effect: accepted (R73) or refused to FAULTED (R74). -/
def takeArm (x : Side) (h : Fin 16) (s : State) : State :=
  match checkArm x h s with
  | .inr head => postRequest x .arm (s.modChan x fun c => c.armed head)
  | .inl kind => (raiseEvent x kind false s).modChan x fun c => { c with state := .faulted }

/-- A channel in FAULTED takes an ARM effect: a failing check raises its event again, and the channel stays (R75). -/
def recheckArm (x : Side) (h : Fin 16) (s : State) : State :=
  match checkArm x h s with
  | .inr _ => s
  | .inl kind => raiseEvent x kind false s

/-! ## The freeze logic (R150, R153) -/

/-- What a SOFT or HARD freeze does to one channel (R150). -/
def freezeChannel (x : Side) (s : State) : State :=
  match (s.chan.get x).state with
  | .writing => if s.freeze.mode = .soft then s.setWait x true else leaveFrozen x s
  | .pending => leaveFrozen x s
  | .preheat => leaveFrozen x s
  | .ready => leaveFrozen x s
  | .holding => leaveFrozen x s
  | .idle => s.modChan x fun c => { c with state := .frozen }
  | .faulted => s.modChan x fun c => { c with state := .frozen }
  | .frozen => s

/-- A qualified FRZ rise, as the freeze logic acts on it: ignored in RUN, else channel A and then channel B (R150). -/
def freezeRise (s : State) : State :=
  if s.freeze.mode = .run then s
  else freezeChannel .b (freezeChannel .a { s with freeze := { s.freeze with active := true } })

/-- The release of a FROZEN channel by its shadow's arm, and FROZEN_EPISODE if its flag is set (R153). -/
def releaseFrozen (x : Side) (s : State) : State :=
  let dest : ChanState := if (s.shadow.get x).arm = .set then .faulted else .idle
  let s1 := s.modChan x fun c => { c with state := dest }
  if s.freeze.frozenEpisode.get x then raiseEvent x .frozenEpisode false (s1.setFrozenEpisode x false) else s1

/-- What a freeze release does to one channel: a freeze wait is cleared (R151), a FROZEN channel is released (R153),
any other channel is left as it is. -/
def thawChannel (x : Side) (s : State) : State :=
  if (s.chan.get x).state = .frozen then releaseFrozen x s else s.setWait x false

/-- A qualified FRZ fall, as the freeze logic acts on it (R153). -/
def freezeFall (s : State) : State :=
  if s.freeze.active then
    thawChannel .b (thawChannel .a { s with freeze := { s.freeze with active := false } })
  else s

/-! ## Commands while RST_N is asserted -/

/-- While RST_N is asserted no block takes a step (R19, R69, R96, R139). -/
def unlessReset (f : State → State) (s : State) : State := if s.rst then s else f s

end Sys2Proof.Machine
end

