-- ==== Sys2Proof/Machine/CaptureMap.lean ====
section
/-!
DEFINITION. What the capture map decides for a word (chapter 2), what the heat channel does with a CONTROL effect
(chapter 6), and the link watch (R166, R167). The link forwarder calls `processWord` once for each word and target of
a taken write (R7), and `substitute` and `traceRead` for each word of a forwarded read (R14).
-/

namespace Sys2Proof.Machine

/-! ## Windows (R23) -/

/-- Whether a window matches a word at address `a` for preamplifier `p` (R23). -/
def Window.covers (w : Window) (p : Side) (a : RegAddr) : Bool :=
  w.enabled && targets w.memberA w.memberB p && decide (w.first.toNat ≤ a.toNat) && decide (a.toNat ≤ w.last.toNat)

/-- The first window in table order that matches (R23). -/
def State.findWindow (s : State) (p : Side) (a : RegAddr) : Option (Fin 16) :=
  (List.finRange 16).find? fun i => (s.windows[i.val]).covers p a

/-! ## CONTROL words (R26, R27) -/

/-- The four effects of a CONTROL word (R27). -/
inductive ControlEffect where
  | rearm
  | arm
  | disarm
  | switch
  deriving DecidableEq, Repr

/-- The written head: the value of extractor 1, a value above 15 taken as 15 (R26). -/
def writtenHead (w : Window) (word : Word) : Fin 16 :=
  if h : w.ext1.value word < 16 then ⟨w.ext1.value word, h⟩ else 15

/-- The written arm: SET if the value of extractor 2 is nonzero (R26). -/
def writtenArm (w : Window) (word : Word) : Bool := w.ext2.value word ≠ 0

/-- The classification of a CONTROL word against the shadow before it (R27). -/
def classify (old : Shadow) (head : Fin 16) (arm : Bool) : ControlEffect :=
  if arm then (if old.arm = .set && old.head = some head then .rearm else .arm)
  else (if old.head = some head then .disarm else .switch)

/-- An episode ended by a CONTROL word. The channel goes to IDLE with the outcome given; under a SOFT freeze wait it
goes on to FROZEN in the same act, the wait cleared and its frozen-episode flag clear (R151). -/
def leaveByControl (x : Side) (outcome : EpisodeOutcome) (s : State) : State :=
  let s1 := leaveEpisode x .idle outcome s
  if s.freeze.wait.get x then
    ((s1.setWait x false).setFrozenEpisode x false).modChan x fun c => { c with state := .frozen }
  else s1

/-- The end of an episode by a head change: HEAD_CHANGE_ACTIVE from WRITING or HOLDING, then outcome
ABORT_HEAD_CHANGE (R89, R90 part 1). -/
def leaveByHeadChange (x : Side) (s : State) : State :=
  leaveByControl x .abortHeadChange
    (if (s.chan.get x).state.recomputes then raiseEvent x .headChangeActive false s else s)

/-- The outcome of a DISARM by the state it finds (R88, R93). -/
def disarmOutcome : ChanState → EpisodeOutcome
  | .writing => .abortDisarm
  | .holding => .complete
  | .pending => .unused
  | .preheat => .unused
  | .ready => .unused
  | .idle => .unused
  | .faulted => .unused
  | .frozen => .unused

/-- A DISARM in an episode state (R88). -/
def disarmEpisode (x : Side) (s : State) : State :=
  let st := (s.chan.get x).state
  leaveByControl x (disarmOutcome st) (if st = .writing then raiseEvent x .disarmWhileWriting false s else s)

/-- An ARM in an episode state: the old episode ends, and the channel, then in IDLE, takes the arm; a channel that
went on to FROZEN takes nothing (R90, R151). -/
def headChangeArm (x : Side) (h : Fin 16) (s : State) : State :=
  if s.freeze.wait.get x then leaveByHeadChange x s else takeArm x h (leaveByHeadChange x s)

/-- What the heat channel does with a CONTROL effect, by its state (R73, R75, R76, R88–R91). -/
def deliverEffect (x : Side) (e : ControlEffect) (h : Fin 16) (s : State) : State :=
  if s.inEpisode x then
    match e with
    | .rearm => s
    | .arm => headChangeArm x h s
    | .disarm => disarmEpisode x s
    | .switch => leaveByHeadChange x s
  else if (s.chan.get x).state = .idle then
    match e with
    | .arm => takeArm x h s
    | .rearm => s
    | .disarm => s
    | .switch => s
  else if (s.chan.get x).state = .faulted then
    match e with
    | .arm => recheckArm x h s
    | .rearm => s
    | .disarm => s.modChan x fun c => { c with state := .idle }
    | .switch => s.modChan x fun c => { c with state := .idle }
  else s

/-- A CONTROL word for preamplifier `p`: classified against the shadow, the shadow set, the effect delivered (R27). -/
def controlWord (p : Side) (w : Window) (word : Word) (s : State) : State :=
  let head := writtenHead w word
  let arm := writtenArm w word
  let e := classify (s.shadow.get p) head arm
  deliverEffect p e head
    { s with shadow := s.shadow.set p ⟨some head, if arm then .set else .clear⟩ }

/-! ## Value windows (R28–R31) -/

/-- The head resolved for a value-window word: an offset from the window's base, or the shadow's selected head;
`none` is UNKNOWN (R28). -/
def resolveHead (w : Window) (a : RegAddr) (sh : Shadow) : Option Nat :=
  match w.headBase with
  | .base b => some (a.toNat - w.first.toNat + b.val)
  | .selected => sh.head.map Fin.val

/-- A value-window word: forwarded untouched when its head is UNKNOWN or 12 or above (R29); offered to the held-write
queue when the window protects and the channel is in an episode state; otherwise captured and forwarded (R30). -/
def valueWord (p : Side) (i : Fin 16) (w : Window) (a : RegAddr) (word : Word) (s : State) : State × Disposition :=
  match resolveHead w a (s.shadow.get p) with
  | none => (s, .forward)
  | some n =>
    if h : n < 12 then
      if w.hold && s.inEpisode p then offerHeld p i ⟨n, h⟩ a word s
      else (captureCode p ⟨n, h⟩ w.kind.codeName (w.ext1.value word) s, .forward)
    else (s, .forward)

/-! ## Classification of one word for one preamplifier -/

/-- The disposition and the side effects of a word matched by window `i`, or by none (R23, R26, R30, R32, R33). -/
def classifyWord (p : Side) (a : RegAddr) (word : Word) (s : State) : State × Disposition :=
  match s.findWindow p a with
  | none => (s, .forward)
  | some i =>
    let w := s.windows[i.val]
    match w.kind with
    | .control => (controlWord p w word s, .forward)
    | .threshold => valueWord p i w a word s
    | .operating => valueWord p i w a word s
    | .faultStatus => (clearWord p (w.ext1.value word) w.ext1.effectiveWidth s, .forward)
    | .faultInject => (injectWord p (w.ext1.value word) s, .forward)

/-! ## The link watch (R166, R167) -/

/-- Whether a watch entry matches a word at address `a` for preamplifier `p`; `reading` is the direction (R166). -/
def WatchEntry.covers (e : WatchEntry) (p : Side) (a : RegAddr) (reading : Bool) : Bool :=
  e.enabled && targets e.memberA e.memberB p
    && (e.direction = .both || e.direction = (if reading then .read else .write))
    && a.toNat / 2 ^ e.ignoreLow = e.addr.toNat / 2 ^ e.ignoreLow

/-- The first matching watch entry (R166). -/
def State.findWatch (s : State) (p : Side) (a : RegAddr) (reading : Bool) : Option (Fin 4) :=
  (List.finRange 4).find? fun i => (s.watch[i.val]).covers p a reading

/-- Queue the TRACE record of a word that an entry matches (R167). -/
def traceWord (p : Side) (a : RegAddr) (d : TraceDisposition) (word : Word) (s : State) : State :=
  match s.findWatch p a (d = .read) with
  | some e => queueReport (.trace e p a d word) s
  | none => s

/-- The whole processing of one write word for one preamplifier: disposition and side effects, then the trace
(R7, R167). -/
def processWord (p : Side) (a : RegAddr) (word : Word) (s : State) : State × Disposition :=
  let r := classifyWord p a word s
  (traceWord p a (.write r.2) word r.1, r.2)

/-! ## Read words (R14, R41, R159) -/

/-- The substitution point of a read word: a held entry's value replaces the whole word; otherwise the field of a
FAULT_STATUS window is replaced by the merged code; otherwise the word passes (R14). -/
def substitute (p : Side) (a : RegAddr) (returned : Word) (s : State) : Word :=
  match s.heldFor p a with
  | some e => e.value
  | none =>
    match s.findWindow p a with
    | none => returned
    | some i =>
      let w := s.windows[i.val]
      if w.kind = .faultStatus then
        w.ext1.replace returned
          (mergedField (mergedCode s.events.mask (s.events.kinds.get p)) w.ext1.effectiveWidth)
      else returned

end Sys2Proof.Machine
end

