-- ==== Sys2Proof/Machine/ControlLink.lean ====
section
/-!
DEFINITION. The commands of the control link (chapter 1): ULEN_FALL, ULEN_RISE, READ_HEADER, FORWARDED_READ_START,
READ_WORD, READ_ANSWER_FFFF, WRITE_TAKEN, EMITTER_SEND and TRANSACTION_SENT.
-/

namespace Sys2Proof.Machine

/-! ## Waiting (R2) -/

/-- The emission list is empty and the block buffer is free (R2). -/
def Link.clear (l : Link) : Bool := l.emission.isEmpty && l.buffer.isNone

/-- Release ULWT if the emission list is empty and the block buffer is free (R2, R12). -/
def settleUlwt (s : State) : State :=
  if s.link.clear then { s with link := { s.link with ulwt := false } } else s

/-! ## Opening and closing an upstream transaction (R2, R3, R16, R19) -/

/-- ULEN falls: a transaction opens, under ULWT if something is left over (R2). Under RST_N the fall opens nothing,
and the transaction is ignored until ULEN rises (R19). -/
def ulenFall (s : State) : State :=
  match s.link.upstream with
  | .closed =>
    if s.rst then { s with link := { s.link with upstream := .ignored } }
    else { s with link := { s.link with upstream := .opened, ulwt := !s.link.clear } }
  | .opened => s
  | .reading _ => s
  | .ignored => s

/-- The write received from the complete words of an upstream transaction: none without a complete header or with the
read flag set; otherwise its first 16 data words, and whether there were more (R3, R5). -/
def receiveWrite (words : List Word) : Option BlockWrite :=
  match words with
  | [] => none
  | h :: data =>
    let hd := decodeHeader h
    if hd.read then none
    else some ⟨hd.toA, hd.toB, hd.kept, hd.addr, data.take Config.blockCapacity,
      decide (Config.blockCapacity < data.length)⟩

/-- ULEN rises: ULWT is released and the transaction closes. An open transaction leaves its write in the block buffer
(R3); no word can have been clocked while ULWT was asserted (R2). A read ends (R16). -/
def ulenRise (words : List Word) (s : State) : State :=
  let closed := { s.link with upstream := .closed, ulwt := false, ulda := none }
  match s.link.upstream with
  | .opened =>
    match (if s.link.ulwt then none else receiveWrite words) with
    | some w => { s with link := { closed with buffer := some w } }
    | none => { s with link := closed }
  | .reading _ => { s with link := closed }
  | .ignored => { s with link := closed }
  | .closed => s

/-! ## Reads (R13–R16) -/

/-- How a read is answered, from its target set and the configuration state (R13). -/
def readAnswered (toA toB configured : Bool) : Bool := (!toA && !toB) || (toA && toB && configured)

/-- The header of a read is complete: it is answered with 0xFFFF, or forwarded once the emission list is empty, under
ULWT until then (R13). The list is looked at as the header is complete; for a release appended later, see assumption
log 23. -/
def readHeader (header : Word) (s : State) : State :=
  let hd := decodeHeader header
  if s.link.upstream = .opened && !s.link.ulwt && hd.read then
    if readAnswered hd.toA hd.toB s.configured then
      { s with link := { s.link with upstream := .reading ⟨hd.toA, hd.toB, hd.kept, hd.addr, .answered⟩ } }
    else
      { s with link := { s.link with
          upstream := .reading ⟨hd.toA, hd.toB, hd.kept, hd.addr, .waiting⟩
          ulwt := !s.link.emission.isEmpty } }
  else s

/-- A waiting read takes the downstream link once the emission list is empty (R13). R13 asserts ULWT for a release that is
appended while the header is clocked, and is silent on one that is appended after the header and before DLEN falls: the
model's choice is that the read then waits for the list to drain, with ULWT as READ_HEADER left it (DESIGN CHOICE,
assumption log 23). -/
def forwardedReadStart (s : State) : State :=
  match s.link.upstream with
  | .reading r =>
    if r.phase = .waiting && s.link.emission.isEmpty && !s.link.sending then
      { s with link := { s.link with
          upstream := .reading { r with phase := .forwarded }
          dlda := [readHeaderWord r] } }
    else s
  | .closed => s
  | .opened => s
  | .ignored => s

/-- The preamplifier of a single-target read in CONFIGURED, whose words are tested for substitution (R14, R17). -/
def State.readTested (s : State) (r : ReadTxn) : Option Side :=
  if s.configured then
    (if r.toA && !r.toB then some .a else if r.toB && !r.toA then some .b else none)
  else none

/-- Hand a word upstream: it stands on ULDA, ULWT is released and the next word has the next address (R1, R14). -/
def handUpstream (r : ReadTxn) (w : Word) (s : State) : State :=
  { s with link := { s.link with
      upstream := .reading { r with addr := r.addr + 1 }
      ulwt := false
      ulda := some w } }

/-- One data word of a forwarded read: substituted and traced for a single-target read in CONFIGURED, otherwise
handed upstream as sampled (R14, R17, R167). -/
def readWord (returned : Word) (s : State) : State :=
  match s.link.upstream with
  | .reading r =>
    if r.phase = .forwarded then
      match s.readTested r with
      | some p =>
        let w := substitute p r.addr returned s
        handUpstream r w (traceWord p r.addr .read w s)
      | none => handUpstream r returned s
    else s
  | .closed => s
  | .opened => s
  | .ignored => s

/-- One word of a read that is not forwarded: 0xFFFF (R15). -/
def readAnswerFfff (s : State) : State :=
  match s.link.upstream with
  | .reading r => if r.phase = .answered then handUpstream r 0xFFFF#16 s else s
  | .closed => s
  | .opened => s
  | .ignored => s

/-! ## Taking a write (R4–R10, R17) -/

/-- Extend the open run by a word position with forwarding pair (toA, toB): the run goes on while the pair is the
same; otherwise it closes and a new run opens, unless the word goes to neither. Answers the closed transactions and
the open run (R9). -/
def extendRun (run : Option Txn) (toA toB : Bool) (kept : BitVec 6) (a : RegAddr) (w : Word) :
    List Txn × Option Txn :=
  let fresh : Option Txn := if toA || toB then some ⟨toA, toB, kept, a, [w]⟩ else none
  match run with
  | some t => if t.toA = toA && t.toB = toB then ([], some { t with words := t.words ++ [w] }) else ([t], fresh)
  | none => ([], fresh)

/-- Process one word for one target, or not at all when the preamplifier is outside the target set; the Bool says
whether the disposition is FORWARD (R7). -/
def processTarget (p : Side) (target : Bool) (a : RegAddr) (w : Word) (s : State) : State × Bool :=
  if target then ((processWord p a w s).1, decide ((processWord p a w s).2 = .forward)) else (s, false)

/-- Process one word position of a block: A's disposition and side effects, then B's (R7). What the word releases
comes after the runs through this word, A's release before B's, and ends them (R10). The state carries the emission
list so far, the second component the open run. -/
def processPosition (b : BlockWrite) (a : RegAddr) (w : Word) (s : State) (run : Option Txn) :
    State × Option Txn :=
  let before := s.link.emission
  let ra := processTarget .a b.toA a w (s.setEmission [])
  let rb := processTarget .b b.toB a w ra.1
  let released := rb.1.link.emission
  let r := extendRun run ra.2 rb.2 b.kept a w
  if released.isEmpty then (rb.1.setEmission (before ++ r.1), r.2)
  else (rb.1.setEmission (before ++ r.1 ++ r.2.toList ++ released), none)

/-- Process the words of a block in order, each at the next address, and close the last run (R7, R9). -/
def processBlock (b : BlockWrite) (a : RegAddr) (words : List Word) (s : State) (run : Option Txn) : State :=
  match words with
  | [] => s.setEmission (s.link.emission ++ run.toList)
  | w :: rest =>
    processBlock b (a + 1) rest (processPosition b a w s run).1 (processPosition b a w s run).2

/-- OVERLONG_BLOCK for each targeted preamplifier, A's before B's (R5). -/
def raiseOverlong (b : BlockWrite) (s : State) : State :=
  let s1 := if b.toA then raiseEvent .a .overlongBlock false s else s
  if b.toB then raiseEvent .b .overlongBlock false s1 else s1

/-- A taken write in CONFIGURED (R5, R7). -/
def processWrite (b : BlockWrite) (s : State) : State :=
  processBlock b b.addr b.words (if b.overlong then raiseOverlong b s else s) none

/-- A taken write outside CONFIGURED: appended whole as one transaction (R17); a write of no words forwards nothing
(R3). -/
def passRaw (b : BlockWrite) (s : State) : State :=
  if b.words.isEmpty then s
  else s.setEmission (s.link.emission ++ [⟨b.toA, b.toB, b.kept, b.addr, b.words⟩])

/-- The received write is taken, at an empty emission list (R4): discarded when its target set is empty (R6),
otherwise processed or passed raw by the configuration state; the block buffer is free again. -/
def writeTaken (s : State) : State :=
  match s.link.buffer with
  | none => s
  | some b =>
    if s.link.emission.isEmpty then
      let s1 := { s with link := { s.link with buffer := none } }
      settleUlwt
        (if !b.toA && !b.toB then s1 else if s1.configured then processWrite b s1 else passRaw b s1)
    else s

/-! ## Sending (R12) -/

/-- The emitter starts the transaction at the head of the list: DLEN falls and the header is clocked (R12). -/
def emitterSend (s : State) : State :=
  match s.link.emission with
  | [] => s
  | t :: _ =>
    if s.dlenLow then s
    else { s with link := { s.link with sending := true, dlda := [txnHeader t] } }

/-- The last data word has been clocked: DLEN rises, the transaction leaves the list, and ULWT is released if nothing
is left (R12). -/
def transactionSent (s : State) : State :=
  if s.link.sending then
    match s.link.emission with
    | [] => s
    | t :: rest =>
      settleUlwt { s with link := { s.link with
        emission := rest
        sending := false
        dlda := txnHeader t :: t.words } }
  else s

/-! ## The meanings -/

/-- ULEN_FALL. -/
def execUlenFall (s : State) : Host.Outcome State Fault Refusal := .next (ulenFall s)

/-- ULEN_RISE. -/
def execUlenRise (words : List Word) (s : State) : Host.Outcome State Fault Refusal := .next (ulenRise words s)

/-- READ_HEADER. -/
def execReadHeader (header : Word) (s : State) : Host.Outcome State Fault Refusal :=
  .next (unlessReset (readHeader header) s)

/-- FORWARDED_READ_START. -/
def execForwardedReadStart (s : State) : Host.Outcome State Fault Refusal :=
  .next (unlessReset forwardedReadStart s)

/-- READ_WORD. -/
def execReadWord (returned : Word) (s : State) : Host.Outcome State Fault Refusal :=
  .next (unlessReset (readWord returned) s)

/-- READ_ANSWER_FFFF. -/
def execReadAnswerFfff (s : State) : Host.Outcome State Fault Refusal := .next (unlessReset readAnswerFfff s)

/-- WRITE_TAKEN. -/
def execWriteTaken (s : State) : Host.Outcome State Fault Refusal := .next (unlessReset writeTaken s)

/-- EMITTER_SEND. -/
def execEmitterSend (s : State) : Host.Outcome State Fault Refusal := .next (unlessReset emitterSend s)

/-- TRANSACTION_SENT. -/
def execTransactionSent (s : State) : Host.Outcome State Fault Refusal := .next (unlessReset transactionSent s)

end Sys2Proof.Machine
end

