-- ==== Sys2Proof/Machine/GateLines.lean ====
section
/-!
DEFINITION. The gate lines (chapter 5) and what their edges do to the heat channels (chapter 6) and the freeze logic
(chapter 11): GATE_SAMPLE, WRITE_GATE_RISE, WRITE_GATE_FALL, SERVO_GATE_RISE, SERVO_GATE_FALL, FRZ_RISE and FRZ_FALL.

The sample at which an input takes an edge is that edge's own command; GATE_SAMPLE is a sample of the inputs that take
none (spec/95_what_each_step_holds.md; assumption log 5).
-/

namespace Sys2Proof.Machine

/-! ## Qualification (R61) -/

/-- The next sample at the level opposite to the qualified one completes the run: the run count is Q − 1 or more. -/
def Qualifier.due (q : Nat) (g : Qualifier) : Bool := decide (q - 1 ≤ g.run)

/-- One sample that takes no edge: back at the qualified level the run count becomes 0; at the opposite level it grows,
unless this sample would complete the run, which is the edge's own command (R61). -/
def Qualifier.sample (q : Nat) (level : Bool) (g : Qualifier) : Qualifier :=
  if level = g.level then { g with run := 0 }
  else if g.due q then g
  else { g with run := g.run + 1 }

/-- The sample that completes a run at `level`: the qualified level becomes it and the run count 0 (R61). -/
def Qualifier.edge (level : Bool) : Qualifier := ⟨level, 0⟩

/-- An edge to `level` is taken at this sample: the qualified level is the opposite and the run is due (R61). -/
def Qualifier.takes (q : Nat) (level : Bool) (g : Qualifier) : Bool := g.level ≠ level && g.due q

/-- One sample of all five inputs (R61). -/
def gateSample (v : GateSamples) (s : State) : State :=
  let g := s.gates
  { s with gates := { g with
      wg := ⟨g.wg.a.sample g.q v.wga, g.wg.b.sample g.q v.wgb⟩
      sg := ⟨g.sg.a.sample g.q v.sga, g.sg.b.sample g.q v.sgb⟩
      frz := g.frz.sample g.q v.frz } }

/-- The qualified level of a write gate becomes `level`. -/
def State.setWriteGate (x : Side) (level : Bool) (s : State) : State :=
  { s with gates := { s.gates with wg := s.gates.wg.set x (Qualifier.edge level) } }

/-- The qualified level of a servo gate becomes `level`. -/
def State.setServoGate (x : Side) (level : Bool) (s : State) : State :=
  { s with gates := { s.gates with sg := s.gates.sg.set x (Qualifier.edge level) } }

/-- The qualified level of FRZ becomes `level`. -/
def State.setFrzGate (level : Bool) (s : State) : State :=
  { s with gates := { s.gates with frz := Qualifier.edge level } }

/-- Deliver an edge to its receiver while CONFIGURED; outside CONFIGURED it is lost (R64, R68). -/
def deliverEdge (f : State → State) (s : State) : State := if s.configured then f s else s

/-! ## What the heat channel does with an edge -/

/-- An early gate: EARLY_GATE is raised and the early flag set (R80, R81). -/
def earlyGate (x : Side) (s : State) : State :=
  (raiseEvent x .earlyGate false s).modChan x fun c => { c with record := { c.record with early := true } }

/-- A lenient early gate in PREHEAT: the lenient flag is set, the lead timer stops and WRITING is entered at once
(R81). -/
def lenientWrite (x : Side) (s : State) : State :=
  enterWriting x
    (s.modChan x fun c => { c with leadTimer := .stopped, record := { c.record with lenient := true } })

/-- A qualified write gate rise, as the channel acts on it (R76, R80–R82). -/
def writeRise (x : Side) (s : State) : State :=
  match (s.chan.get x).state with
  | .pending => earlyGate x s
  | .preheat => if s.earlyPolicy = .lenient then lenientWrite x (earlyGate x s) else earlyGate x s
  | .ready => enterWriting x s
  | .holding => enterWriting x s
  | .idle => s
  | .writing => s
  | .faulted => s
  | .frozen => s

/-- A qualified write gate fall, as the channel acts on it: from WRITING to HOLDING, or, under a freeze wait, out of
the episode to FROZEN; elsewhere no effect (R84, R151). -/
def writeFall (x : Side) (s : State) : State :=
  if (s.chan.get x).state = .writing then
    if s.freeze.wait.get x then leaveFrozen x s else enterHolding x s
  else s

/-- A servo overlap: SERVO_OVERLAP is raised and its flag set, and the channel goes to HOLDING, or, under a freeze
wait, out of the episode to FROZEN (R85, R151). -/
def servoOverlap (x : Side) (s : State) : State :=
  let s1 := (raiseEvent x .servoOverlap false s).modChan x fun c =>
    { c with record := { c.record with overlap := true } }
  if s.freeze.wait.get x then leaveFrozen x s1 else enterHolding x s1

/-- Swap a staged plan in (R87). -/
def Channel.swapped (c : Channel) : Channel :=
  match c.staged with
  | some p => { c with live := some p, staged := none }
  | none => c

/-- A qualified servo gate rise, as the channel acts on it (R85, R87). -/
def servoRise (x : Side) (s : State) : State :=
  match (s.chan.get x).state with
  | .writing => servoOverlap x s
  | .holding => s.modChan x Channel.swapped
  | .idle => s
  | .pending => s
  | .preheat => s
  | .ready => s
  | .faulted => s
  | .frozen => s

/-! ## The edges -/

/-- An edge command: the qualifier takes the edge if its run is due, and the receiver acts on it in CONFIGURED; a
command whose run is not due is no edge, and nothing happens (R61, R63, R64). -/
def takeEdge (due : Bool) (level : State → State) (deliver : State → State) (s : State) : State :=
  if due then deliverEdge deliver (level s) else s

/-- A write gate rise. -/
def writeGateRise (x : Side) (s : State) : State :=
  takeEdge ((s.gates.wg.get x).takes s.gates.q true) (State.setWriteGate x true) (writeRise x) s

/-- A write gate fall. -/
def writeGateFall (x : Side) (s : State) : State :=
  takeEdge ((s.gates.wg.get x).takes s.gates.q false) (State.setWriteGate x false) (writeFall x) s

/-- A servo gate rise. -/
def servoGateRise (x : Side) (s : State) : State :=
  takeEdge ((s.gates.sg.get x).takes s.gates.q true) (State.setServoGate x true) (servoRise x) s

/-- A servo gate fall: delivered to no block (R64). -/
def servoGateFall (x : Side) (s : State) : State :=
  takeEdge ((s.gates.sg.get x).takes s.gates.q false) (State.setServoGate x false) id s

/-- A FRZ rise. -/
def frzRise (s : State) : State :=
  takeEdge (s.gates.frz.takes s.gates.q true) (State.setFrzGate true) freezeRise s

/-- A FRZ fall. -/
def frzFall (s : State) : State :=
  takeEdge (s.gates.frz.takes s.gates.q false) (State.setFrzGate false) freezeFall s

/-! ## The meanings -/

/-- WRITE_GATE_RISE. -/
def execWriteGateRise (x : Side) (s : State) : Host.Outcome State Fault Refusal :=
  .next (unlessReset (writeGateRise x) s)

/-- WRITE_GATE_FALL. -/
def execWriteGateFall (x : Side) (s : State) : Host.Outcome State Fault Refusal :=
  .next (unlessReset (writeGateFall x) s)

/-- SERVO_GATE_RISE. -/
def execServoGateRise (x : Side) (s : State) : Host.Outcome State Fault Refusal :=
  .next (unlessReset (servoGateRise x) s)

/-- SERVO_GATE_FALL. -/
def execServoGateFall (x : Side) (s : State) : Host.Outcome State Fault Refusal :=
  .next (unlessReset (servoGateFall x) s)

/-- FRZ_RISE. -/
def execFrzRise (s : State) : Host.Outcome State Fault Refusal := .next (unlessReset frzRise s)

/-- FRZ_FALL. -/
def execFrzFall (s : State) : Host.Outcome State Fault Refusal := .next (unlessReset frzFall s)

/-- GATE_SAMPLE. -/
def execGateSample (samples : GateSamples) (s : State) : Host.Outcome State Fault Refusal :=
  .next (unlessReset (gateSample samples) s)

end Sys2Proof.Machine
end

