-- ==== Sys2Proof/Machine/Timers.lean ====
section
/-!
DEFINITION. The expiries of a heat channel's timers: LEAD_EXPIRY (R79), KICK_EXPIRY (R83) and DWELL_EXPIRY (R147).

SLOT_START counts the lead and kick timers down at the end of the running slot and the dwell counters at a frame
start. An expiry and a slot start (or a frame start) fall at the same moment, and either may be taken first (R65, R124,
R125, R148). So an expiry is taken after the slot start that brought its count to 0, or ahead of it, while the count is
1 and that slot start is the next one (assumption log 4).
-/

namespace Sys2Proof.Machine

/-- A lead or kick timer whose expiry can be taken: it has reached 0, or reaches 0 at the end of the running slot. -/
def Timer.due : Timer → Bool
  | .counting n => decide (n ≤ 1)
  | .stopped => false
  | .waiting => false

/-- A frame start falls now and is still to be taken: the slot to come is slot 0 and its frame start has not been taken
ahead of its word, or the word of the running slot 0 was sent ahead of it (R125; assumption log 21). -/
def State.frameNext (s : State) : Bool :=
  match s.framer.split with
  | .whole => s.framer.slot = none || s.framer.slot = some 7
  | .eventTaken => false
  | .frameOwed => true

/-- A frame counter whose expiry can be taken: it has reached 0, or reaches 0 at the frame start to come. -/
def frameDue (counter : Option Nat) (frameNext : Bool) : Bool := counter = some 0 || (counter = some 1 && frameNext)

/-- The dwell count with which READY is entered: D; and when a frame start has already been delivered that the lead
expiry, taken first, comes before, that frame start counts on the new count (R148). -/
def readyDwell (dwell : Option Nat) (dwellLimit : Nat) : Nat := if dwell = some 0 then dwellLimit - 1 else dwellLimit

/-- PREHEAT to READY: the lead timer stops and the dwell counter is loaded for READY (R79). -/
def Channel.toReady (dwellLimit : Nat) (c : Channel) : Channel :=
  { c with state := .ready, leadTimer := .stopped, dwell := some (readyDwell c.dwell dwellLimit) }

/-- A lead expiry (R79). -/
def leadExpiry (x : Side) (s : State) : State :=
  if (s.chan.get x).state = .preheat && (s.chan.get x).leadTimer.due then s.modChan x (Channel.toReady s.dwellLimit)
  else s

/-- A kick expiry: the kick flag is cleared, so the planned level becomes S (R83). -/
def kickExpiry (x : Side) (s : State) : State :=
  if (s.chan.get x).state = .writing && (s.chan.get x).kickTimer.due then
    s.modChan x fun c => { c with kickFlag := false, kickTimer := .stopped }
  else s

/-- A dwell expiry: DWELL_LIMIT is raised and the episode ends to FAULTED with outcome DWELL (R147). -/
def dwellExpiry (x : Side) (s : State) : State :=
  if (s.chan.get x).state.dwells && frameDue (s.chan.get x).dwell s.frameNext then
    leaveEpisode x .faulted .dwell
      (raiseEvent x .dwellLimit false (s.modChan x fun c => { c with dwell := none }))
  else s

/-! ## The meanings -/

/-- LEAD_EXPIRY. -/
def execLeadExpiry (x : Side) (s : State) : Host.Outcome State Fault Refusal := .next (unlessReset (leadExpiry x) s)

/-- KICK_EXPIRY. -/
def execKickExpiry (x : Side) (s : State) : Host.Outcome State Fault Refusal := .next (unlessReset (kickExpiry x) s)

/-- DWELL_EXPIRY. -/
def execDwellExpiry (x : Side) (s : State) : Host.Outcome State Fault Refusal :=
  .next (unlessReset (dwellExpiry x) s)

end Sys2Proof.Machine
end

