-- ==== Sys2Proof/Machine/Thermal.lean ====
section
/-!
DEFINITION. The thermal model's update (chapter 8): THERMAL_EXPIRY.
-/

namespace Sys2Proof.Machine

/-- The heat input E of head `h` of actuator `x` at an expiry: charged only for the episode head of a channel in an
episode state whose emitted head it is and whose emitted level stands above T (R117). The text after R117's four
conditions, and R119, say that E is 0 in PENDING; a channel armed again with the same head before its urgent OFF is sent
meets all four there, and the model's choice is that the four conditions decide (DESIGN CHOICE, assumption log 24). -/
def heatInput (s : State) (x : Side) (h : Fin 12) : Nat :=
  match (s.headRec x h).threshold with
  | none => 0
  | some t =>
    if s.inEpisode x && (s.chan.get x).head = h && s.framer.head.get x = h && decide (t < s.framer.level.get x) then
      (s.framer.level.get x - t) * s.thermal.gain / 16
    else 0

/-- The new value of an accumulator: decayed, charged and saturated (R118). -/
def newHeat (heat decay input : Nat) : Nat := min (heat - heat * decay / 256 + input) Config.heatMax

/-- The update of one record: only its accumulator changes (R118). -/
def heatRecord (s : State) (x : Side) (h : Fin 12) : HeadRecord :=
  { s.headRec x h with heat := newHeat (s.headRec x h).heat s.thermal.decay (heatInput s x h) }

/-- All 24 accumulators, each from the state that the expiry finds (R118). -/
def heatHeads (s : State) : PerSide (Vector HeadRecord 12) :=
  ⟨Vector.ofFn (heatRecord s .a), Vector.ofFn (heatRecord s .b)⟩

/-- Post a RECOMPUTE for a channel in WRITING or HOLDING (R119). -/
def postRecompute (x : Side) (s : State) : State :=
  if (s.chan.get x).state.recomputes then postRequest x .recompute s else s

/-- The interval counter as an expiry leaves it: loaded with I. An expiry taken ahead of its frame start's slot-0 word
is remembered, so that SLOT_START does not count that frame start again (R116, R120). -/
def reloadInterval (t : Thermal) : Thermal :=
  { t with counter := some t.interval, takenEarly := t.counter ≠ some 0 }

/-- A thermal expiry: the counter is reloaded, all 24 accumulators are written, and then the RECOMPUTEs are posted,
A's first (R116–R119). -/
def thermalExpiry (s : State) : State :=
  if s.configured && frameDue s.thermal.counter (s.frameNext && !s.thermal.takenEarly) then
    postRecompute .b (postRecompute .a { s with heads := heatHeads s, thermal := reloadInterval s.thermal })
  else s

/-- THERMAL_EXPIRY. -/
def execThermalExpiry (s : State) : Host.Outcome State Fault Refusal := .next (unlessReset thermalExpiry s)

end Sys2Proof.Machine
end

