-- ==== Sys2Proof/Machine/LaserBus.lean ====
section
/-!
DEFINITION. The laser bus framer and the supply budget limiter (chapters 9 and 10): SLOT_START, with the frame start
(R125), the countdown of the lead and kick timers (R79, R83) and the fix of the effective slot map (R131). The frame
start and the fix can be taken apart from the slot's word (R124, R125, R131).
-/

namespace Sys2Proof.Machine

/-! ## The end of the running slot -/

/-- Each preamplifier that the running slot's destination names latches its word at the slot's end (R126, R128). -/
def latchSlot (s : State) : State :=
  { s with drives :=
    ⟨if destNames s.framer.lbds .a then latchWord s.framer.lbda s.drives.a else s.drives.a,
      if destNames s.framer.lbds .b then latchWord s.framer.lbda s.drives.b else s.drives.b⟩ }

/-- A timer counts a slot once it is loaded (R79, R83). -/
def Timer.countSlot : Timer → Timer
  | .counting n => .counting (n - 1)
  | .stopped => .stopped
  | .waiting => .waiting

/-- Both timers of a channel count the slot that ends. -/
def Channel.countSlot (c : Channel) : Channel :=
  { c with leadTimer := c.leadTimer.countSlot, kickTimer := c.kickTimer.countSlot }

/-- The end of the running slot, for both channels. -/
def countSlots (s : State) : State := { s with chan := ⟨s.chan.a.countSlot, s.chan.b.countSlot⟩ }

/-! ## The frame start (R125) -/

/-- The interval counter at a frame start: it counts only in CONFIGURED, and a frame start whose expiry has been taken
already is not counted again (R116). -/
def Thermal.countFrame (configured : Bool) (t : Thermal) : Thermal :=
  if !configured then t
  else if t.takenEarly then { t with takenEarly := false }
  else { t with counter := t.counter.map (· - 1) }

/-- A channel at a frame start: the dwell counter runs in PREHEAT, READY and HOLDING (R147), and the duration counts in
every episode state (R95). -/
def Channel.countFrame (c : Channel) : Channel :=
  { c with
    dwell := if c.state.dwells then c.dwell.map (· - 1) else c.dwell
    record :=
      if c.state.inEpisode then { c.record with duration := min (c.record.duration + 1) Config.durationMax }
      else c.record }

/-- The frame-start event at its three receivers (R125). -/
def frameStart (s : State) : State :=
  { s with
    thermal := s.thermal.countFrame s.configured
    chan := ⟨s.chan.a.countFrame, s.chan.b.countFrame⟩ }

/-! ## Slot maps (R130, R131) -/

/-- Channel x is quiet (R130). -/
def State.quiet (s : State) (x : Side) : Bool :=
  !s.inEpisode x && s.framer.level.get x = 0 && !s.framer.urgent.get x

/-- The effective owner of a slot: a quiet channel's slot is lent to the other channel in an episode state (R130). -/
def effectiveOwner (s : State) : SlotOwner → SlotOwner
  | .chan x => if s.quiet x && s.inEpisode x.other then .chan x.other else .chan x
  | .report => .report
  | .none => .none

/-- The fix of the effective slot map at the end of slot 0 (R131). -/
def fixMap (s : State) : State :=
  { s with framer := { s.framer with
      effectiveMap := Vector.ofFn fun k => effectiveOwner s (s.framer.baseMap[k.val]) } }

/-! ## What a slot carries (R133–R137) -/

/-- Put a word and a destination on the bus for the slot (R124). -/
def putWord (w : Word) (dest : BitVec 3) (s : State) : State :=
  { s with framer := { s.framer with lbda := w, lbds := dest } }

/-- ALL_OFF: both emitted levels 0, both urgent OFF flags clear, both emitted heads kept (R133, R137). -/
def sendAllOff (s : State) : State :=
  putWord allOffWord destBoth
    { s with framer := { s.framer with level := .both 0, urgent := .both false } }

/-- The urgent LEVEL 0 for the emitted head (R133, case 3). -/
def sendUrgent (x : Side) (s : State) : State :=
  putWord (levelWord (s.framer.head.get x) 0) (destOf x)
    { s with framer := { s.framer with
        level := s.framer.level.set x 0
        urgent := s.framer.urgent.set x false } }

/-- An IDLE slot (R127). -/
def sendIdle (s : State) : State := putWord idleWord destNone s

/-- The budget limit: the smaller of the planned level and what the other channel's emitted level leaves of B
(R141). -/
def limitLevel (budget planned otherLevel : Nat) : Nat := min planned (budget - otherLevel)

/-- A timer waiting for emission is loaded with `slots`; any other stays (R79, R83). -/
def Timer.load (slots : Nat) : Timer → Timer
  | .waiting => .counting slots
  | .stopped => .stopped
  | .counting n => .counting n

/-- What an emission at `level` does to its channel: waiting timers are loaded, the lead timer with L of the live bank
and the kick timer with Lk, and the peak follows (R79, R83, R95). -/
def Channel.emitted (kickLength level : Nat) (c : Channel) : Channel :=
  { c with
    leadTimer := c.leadTimer.load (match c.live with | some p => p.lead | none => 0)
    kickTimer := c.kickTimer.load kickLength
    record := { c.record with peak := max c.record.peak level } }

/-- A reduced word: the budget-reduced flag is set, and the first of an episode raises BUDGET_SHORT (R142). -/
def markReduced (x : Side) (s : State) : State :=
  let s1 := if (s.chan.get x).record.reduced then s else raiseEvent x .budgetShort false s
  s1.modChan x fun c => { c with record := { c.record with reduced := true } }

/-- A LEVEL word for channel x in an episode state (R134, R141–R143). -/
def sendLevel (x : Side) (s : State) : State :=
  let c := s.chan.get x
  let level := limitLevel s.budget c.planned (s.framer.level.get x.other)
  let s1 := if level < c.planned then markReduced x s else s
  putWord (levelWord c.head level) (destOf x)
    (State.modChan x (Channel.emitted (s.episodeRec x).image.kickLength level)
      { s1 with framer := { s1.framer with
          level := s1.framer.level.set x level
          head := s1.framer.head.set x c.head } })

/-- The next word of the report queue, and the queue advances by it; the record leaves with its last word (R135,
R163). -/
def sendReport (s : State) : State :=
  match s.reports.records with
  | [] => sendIdle s
  | r :: rest =>
    putWord (r.words.getD s.reports.sent 0) destController
      (if s.reports.sent + 1 < r.words.length then { s with reports := { s.reports with sent := s.reports.sent + 1 } }
        else { s with reports := ⟨rest, 0⟩ })

/-- Case 4: the slot goes to its effective owner (R134, R135). -/
def sendOwner (s : State) : SlotOwner → State
  | .chan x => if s.inEpisode x then sendLevel x s else sendIdle s
  | .report => sendReport s
  | .none => sendIdle s

/-- The word of slot `k`, by the first case that applies (R133). -/
def sendSlot (k : Fin 8) (s : State) : State :=
  if !s.configured then sendAllOff s
  else if s.framer.urgent.a && s.framer.urgent.b then sendAllOff s
  else if s.framer.urgent.a then sendUrgent .a s
  else if s.framer.urgent.b then sendUrgent .b s
  else sendOwner s (s.framer.effectiveMap[k.val])

/-! ## SLOT_START -/

/-- The number of the slot that starts: slot 0 first, then around the frame (R124). -/
def nextSlot : Option (Fin 8) → Fin 8
  | none => 0
  | some k => k + 1

/-- Take the event that falls with the slot start to come, unless it has been taken: the frame start of slot 0 (R125),
or, at the end of slot 0, the fix of the effective map (R131). A load that succeeded during the running slot 0 has its
map fixed anew here already: R131 says so of every slot 0, and of that load's map that it stands through the next slot 0
(assumption log 22). -/
def takeEvent (s : State) : State :=
  if s.framer.split = .eventTaken then s
  else if nextSlot s.framer.slot = 0 then (frameStart s).setSplit .eventTaken
  else if nextSlot s.framer.slot = 1 then (fixMap s).setSplit .eventTaken
  else s

/-- Take a frame start that the word of the running slot 0 was sent ahead of, if there is one (R125). -/
def takeOwed (s : State) : State :=
  if s.framer.split = .frameOwed then (frameStart s).setSplit .whole else s

/-- The running slot ends, and the word of the next one is chosen and sent (R124, R133). -/
def beginSlot (mark : SlotSplit) (s : State) : State :=
  let k := nextSlot s.framer.slot
  let s1 := countSlots (latchSlot s)
  sendSlot k { s1 with framer := { s1.framer with slot := some k, split := mark } }

/-- A slot start, or the part of one that the sender asks for (R124, R125). R125 and R148 let the choice of slot 0's word
and the frame start be taken in either order: the model's choices here are that `whole` takes the frame start first, that
the sender asks for the parts in the other order, and that a frame start still owed is taken before the next slot
(DESIGN CHOICE, assumption log 21). The map is fixed before the choice of slot 1's word, which it governs (assumption
log 14), and at the end of every slot 0, also of one during which a load succeeded (R131, assumption log 22). -/
def slotStart (part : SlotPart) (s : State) : State :=
  match part with
  | .event => if s.framer.split = .frameOwed then takeOwed s else takeEvent s
  | .whole => beginSlot .whole (takeEvent (takeOwed s))
  | .word =>
    if nextSlot s.framer.slot = 0 && s.framer.split ≠ .eventTaken then beginSlot .frameOwed (takeOwed s)
    else beginSlot .whole (takeEvent (takeOwed s))

/-- SLOT_START, taken whole unless a part is asked for. -/
def execSlotStart (s : State) (part : SlotPart := .whole) : Host.Outcome State Fault Refusal :=
  .next (unlessReset (slotStart part) s)

end Sys2Proof.Machine
end

