-- ==== Sys2Proof/Machine/LoadPort.lean ====
section
/-!
DEFINITION. The load port and RST_N (chapter 13 and the reset rule of every block): LOAD_PORT_ARMED, LOAD_N_FALL,
LOAD_WORD, LOAD_N_RISE, RST_N_ASSERT and RST_N_RELEASE.
-/

namespace Sys2Proof.Machine

/-! ## The start of a reload (R169) -/

/-- What a reload does to one channel: an episode ends with outcome RELOAD, and a channel in FAULTED or FROZEN goes to
IDLE without a record (R97). -/
def reloadChannel (x : Side) (s : State) : State :=
  if s.inEpisode x then leaveEpisode x .idle .reload s else s.modChan x fun c => { c with state := .idle }

/-- The other blocks at the start of a reload from CONFIGURED, in the order of R169: the channels and the freeze logic;
the windows and the shadow; the base slot map, the watch entries and the interval counter. -/
def quitConfigured (s : State) : State :=
  let s1 := reloadChannel .b (reloadChannel .a s)
  { s1 with
    freeze := { s1.freeze with active := false, wait := .both false, frozenEpisode := .both false }
    windows := Vector.replicate 16 .disabled
    shadow := .both .unknown
    framer := { s1.framer with baseMap := Vector.replicate 8 .none }
    watch := Vector.replicate 4 .disabled
    thermal := { s1.thermal with counter := none, takenEarly := false } }

/-- LOAD_N falls: taken when the port is armed and LOAD_N is not low already; the reload begins (R168, R169). -/
def loadNFall (s : State) : State :=
  if s.loader.armed && s.loader.config ≠ .loading then
    let s1 := if s.configured then quitConfigured s else s
    { s1 with loader := { s1.loader with config := .loading, buffer := [], partialWord := [] } }
  else s

/-! ## Words of the image (R168) -/

/-- A complete word is stored at the next position, or discarded after the 205th; the partial word is empty again. -/
def loadWord (w : Word) (s : State) : State :=
  if s.loader.config = .loading then
    { s with loader := { s.loader with
        buffer := if s.loader.buffer.length < Config.imageWords then s.loader.buffer ++ [w] else s.loader.buffer
        partialWord := [] } }
  else s

/-! ## The end of a load (R170, R171) -/

/-- A present code above the new ceiling is lowered to it; ABSENT stays ABSENT (R58). -/
def lowerCode (ceiling : Nat) (code : Option Nat) : Option Nat := code.map fun v => min v ceiling

/-- A record under a new image part: the codes lowered, H untouched (R58). -/
def HeadRecord.reloaded (image : HeadImage) (r : HeadRecord) : HeadRecord :=
  { image := image
    threshold := lowerCode image.ceiling r.threshold
    operating := lowerCode image.ceiling r.operating
    heat := r.heat }

/-- The records of one actuator under the new image. -/
def reloadHeads (image : List Word) (x : Side) (heads : Vector HeadRecord 12) : Vector HeadRecord 12 :=
  Vector.ofFn fun h => (heads[h.val]).reloaded (imageHead image (imageHeadIndex x h))

/-- Steps 1 to 6 of R171: every block takes its share of a valid image, and the part is CONFIGURED. -/
def applyImage (image : List Word) (s : State) : State :=
  { s with
    heads := ⟨reloadHeads image .a s.heads.a, reloadHeads image .b s.heads.b⟩
    gates := { s.gates with q := clampQ (bitField (imageWord image 2) 0 5) }
    budget := bitField (imageWord image 3) 0 11
    thermal :=
      { interval := clampNonzero (bitField (imageWord image 4) 0 8)
        decay := bitField (imageWord image 5) 0 8
        gain := bitField (imageWord image 6) 0 8
        counter := some (clampNonzero (bitField (imageWord image 4) 0 8))
        takenEarly := false }
    dwellLimit := clampNonzero (bitField (imageWord image 7) 0 12)
    earlyPolicy := decodeEarlyPolicy (bitField (imageWord image 8) 0 1)
    freeze := { s.freeze with mode := decodeFreezeMode (bitField (imageWord image 9) 0 2) }
    windows := Vector.ofFn fun i => imageWindow image i.val
    framer := { s.framer with
      baseMap := decodeSlotMap (imageWord image 10)
      effectiveMap := decodeSlotMap (imageWord image 10) }
    watch := Vector.ofFn fun i => imageWatch image i.val
    events := { kinds := .both [], mask := imageWord image 11 }
    loader := { s.loader with config := .configured, buffer := [], partialWord := [] } }

/-- A successful load: the image is applied, and a qualified FRZ HIGH then gives one FRZ rise under the new mode
(R68, R171). -/
def loadSucceeds (s : State) : State :=
  let s1 := applyImage s.loader.buffer s
  if s1.gates.frz.level then freezeRise s1 else s1

/-- A failed load: UNCONFIGURED, IMAGE_BAD for A and then for B, the stored words discarded (R162, R170). -/
def loadFails (s : State) : State :=
  raiseEvent .b .imageBad false
    (raiseEvent .a .imageBad false
      { s with loader := { s.loader with config := .unconfigured, buffer := [], partialWord := [] } })

/-- LOAD_N rises: in LOADING the image is validated (R170). A first sample that reads high also arms the port
(R168). -/
def loadNRise (s : State) : State :=
  if s.loader.config = .loading then
    if imageValid s.loader.buffer then loadSucceeds s else loadFails s
  else { s with loader := { s.loader with armed := true } }

/-- The first sample after RST_N at which LOAD_N reads high arms the port (R168). -/
def loadPortArmed (s : State) : State := { s with loader := { s.loader with armed := true } }

/-! ## RST_N -/

/-- The upstream link under RST_N: an open transaction is abandoned and ignored until ULEN rises (R19). -/
def abandonUpstream : Upstream → Upstream
  | .closed => .closed
  | .opened => .ignored
  | .reading _ => .ignored
  | .ignored => .ignored

/-- RST_N asserted: every block takes its reset state. The command queue, the level of ULEN and the drive levels that
the preamplifiers hold outside the part stay (R19, R139 and the reset rule of each block). -/
def rstNAssert (s : State) : State :=
  { State.reset with
    pending := s.pending
    rst := true
    link := { Link.reset with upstream := abandonUpstream s.link.upstream }
    drives := s.drives }

/-- RST_N released: the blocks go on from their reset state, and the next slot start is slot 0 of the first frame
(R124). -/
def rstNRelease (s : State) : State := { s with rst := false }

/-! ## The meanings -/

/-- LOAD_N_FALL. -/
def execLoadNFall (s : State) : Host.Outcome State Fault Refusal := .next (unlessReset loadNFall s)

/-- LOAD_WORD. -/
def execLoadWord (w : Word) (s : State) : Host.Outcome State Fault Refusal := .next (unlessReset (loadWord w) s)

/-- LOAD_N_RISE. -/
def execLoadNRise (s : State) : Host.Outcome State Fault Refusal := .next (unlessReset loadNRise s)

/-- RST_N_ASSERT. -/
def execRstNAssert (s : State) : Host.Outcome State Fault Refusal := .next (rstNAssert s)

/-- RST_N_RELEASE. -/
def execRstNRelease (s : State) : Host.Outcome State Fault Refusal := .next (rstNRelease s)

/-- LOAD_PORT_ARMED. -/
def execLoadPortArmed (s : State) : Host.Outcome State Fault Refusal := .next (unlessReset loadPortArmed s)

end Sys2Proof.Machine
end

