-- ==== Sys2Proof/Machine/PlanEngine.lean ====
section
/-!
DEFINITION. The plan engine (chapter 7): ARBITER_START and COMPUTATION_END, with the arithmetic of R107–R112 and the
channel's test of a delivered result (R77, R78, R86).
-/

namespace Sys2Proof.Machine

/-! ## The arithmetic (R107–R112) -/

/-- The span: O − T if O is greater than T, else 0 (R108). -/
def PlanInputs.span (i : PlanInputs) : Nat := i.o - i.t

/-- The compensation c (R108). -/
def PlanInputs.compensation (i : PlanInputs) : Nat := i.h * i.k / 65536

/-- The sustain level S (R109). -/
def PlanInputs.sustain (i : PlanInputs) : Nat := i.t + i.span - i.span * i.compensation / 1024

/-- A kick above S: S + delta, at most C; with a span of 0 it is S (R110). -/
def PlanInputs.kickBy (i : PlanInputs) (delta : Nat) : Nat :=
  if 0 < i.span then min (i.sustain + delta) i.c else i.sustain

/-- The preheat level P (R111). -/
def PlanInputs.preheat (i : PlanInputs) : Nat := i.t + (i.sustain - i.t) * i.pf / 16

/-- The lead credit (R112). -/
def PlanInputs.credit (i : PlanInputs) : Nat := i.h * i.lc / 65536

/-- The lead length L: the larger of Lf and Lb − credit (R112). -/
def PlanInputs.lead (i : PlanInputs) : Nat := max i.lf (i.lb - i.credit)

/-- The plan that a computation with these inputs delivers (R107). -/
def computePlan (i : PlanInputs) : Plan where
  preheat := i.preheat
  sustain := i.sustain
  kick := i.kickBy i.kd
  rekick := i.kickBy (i.kd / 2)
  lead := i.lead

/-! ## The arbiter (R103, R104) -/

/-- The channel whose request is chosen, if any waits (R103). -/
def chooseRequest (a b : Option ReqClass) (lastServed : Side) : Option (Side × ReqClass) :=
  match a, b with
  | none, none => none
  | some c, none => some (.a, c)
  | none, some c => some (.b, c)
  | some .arm, some .recompute => some (.a, .arm)
  | some .recompute, some .arm => some (.b, .arm)
  | some .arm, some .arm => some (lastServed.other, .arm)
  | some .recompute, some .recompute => some (lastServed.other, .recompute)

/-- The ten inputs as the engine reads them from a record (R104). T and O are present in every record that a
computation reads (R101); the 0 given for an ABSENT one is never used (assumption log 9). -/
def HeadRecord.inputs (r : HeadRecord) : PlanInputs where
  t := r.threshold.getD 0
  o := r.operating.getD 0
  c := r.image.ceiling
  kd := r.image.kickDelta
  pf := r.image.preheatFraction
  k := r.image.thermalGain
  lb := r.image.leadBase
  lf := r.image.leadFloor
  lc := r.image.leadCredit
  h := r.heat

/-- Start a computation when the unit is FREE and a request waits: the request leaves its place, the marker names its
channel, and the tag, the head and the inputs are fixed (R103, R104). -/
def arbiterStart (s : State) : State :=
  match s.engine.unit with
  | some _ => s
  | none =>
    match chooseRequest s.engine.place.a s.engine.place.b s.engine.lastServed with
    | none => s
    | some (x, c) =>
      { s with engine :=
        { unit := some ⟨x, c, (s.chan.get x).episode, (s.episodeRec x).inputs⟩
          place := s.engine.place.set x none
          lastServed := x } }

/-! ## Delivery (R77, R78, R86, R105) -/

/-- An accepted ARM result: the live plan, PREHEAT, the lead waiting for emission and the dwell counter loaded
(R77). -/
def Channel.toPreheat (p : Plan) (dwellLimit : Nat) (c : Channel) : Channel :=
  { c with state := .preheat, live := some p, leadTimer := .waiting, dwell := some dwellLimit }

/-- What a channel makes of a delivered result (R78). -/
def Channel.receive (r : Computation) (dwellLimit : Nat) (c : Channel) : Channel :=
  if r.tag = c.episode then
    match r.cls with
    | .arm => if c.state = .pending then c.toPreheat (computePlan r.inputs) dwellLimit else c
    | .recompute => if c.state.recomputes then { c with staged := some (computePlan r.inputs) } else c
  else c

/-- The running computation ends: its result is delivered and the unit becomes FREE (R105). -/
def computationEnd (s : State) : State :=
  match s.engine.unit with
  | none => s
  | some r =>
    ({ s with engine := { s.engine with unit := none } }).modChan r.side (Channel.receive r s.dwellLimit)

/-! ## The meanings -/

/-- ARBITER_START. -/
def execArbiterStart (s : State) : Host.Outcome State Fault Refusal := .next (unlessReset arbiterStart s)

/-- COMPUTATION_END. -/
def execComputationEnd (s : State) : Host.Outcome State Fault Refusal := .next (unlessReset computationEnd s)

end Sys2Proof.Machine
end

