-- ==== Sys2Proof/Machine/Dispatch.lean ====
section
/-!
DEFINITION. One arm for each command: the meaning it calls.
-/

namespace Sys2Proof.Machine

def exec (i : Instr) (s : State) : Host.Outcome State Fault Refusal :=
  match i with
  -- the control link (chapter 1)
  | .ulenFall => Sys2Proof.Machine.execUlenFall s
  | .ulenRise words => Sys2Proof.Machine.execUlenRise words s
  | .readHeader header => Sys2Proof.Machine.execReadHeader header s
  | .forwardedReadStart => Sys2Proof.Machine.execForwardedReadStart s
  | .readWord returned => Sys2Proof.Machine.execReadWord returned s
  | .readAnswerFfff => Sys2Proof.Machine.execReadAnswerFfff s
  | .writeTaken => Sys2Proof.Machine.execWriteTaken s
  | .emitterSend => Sys2Proof.Machine.execEmitterSend s
  | .transactionSent => Sys2Proof.Machine.execTransactionSent s
  -- the gate lines and the freeze (chapters 5, 6, 11)
  | .writeGateRise x => Sys2Proof.Machine.execWriteGateRise x s
  | .writeGateFall x => Sys2Proof.Machine.execWriteGateFall x s
  | .servoGateRise x => Sys2Proof.Machine.execServoGateRise x s
  | .servoGateFall x => Sys2Proof.Machine.execServoGateFall x s
  | .frzRise => Sys2Proof.Machine.execFrzRise s
  | .frzFall => Sys2Proof.Machine.execFrzFall s
  -- the plan engine (chapter 7)
  | .arbiterStart => Sys2Proof.Machine.execArbiterStart s
  | .computationEnd => Sys2Proof.Machine.execComputationEnd s
  -- the timers and the thermal model (chapters 6, 8, 11)
  | .leadExpiry x => Sys2Proof.Machine.execLeadExpiry x s
  | .kickExpiry x => Sys2Proof.Machine.execKickExpiry x s
  | .dwellExpiry x => Sys2Proof.Machine.execDwellExpiry x s
  | .thermalExpiry => Sys2Proof.Machine.execThermalExpiry s
  -- the laser bus and the supply budget (chapters 9, 10)
  | .slotStart part => Sys2Proof.Machine.execSlotStart s part
  -- the load port and RST_N (chapter 13)
  | .loadNFall => Sys2Proof.Machine.execLoadNFall s
  | .loadWord w => Sys2Proof.Machine.execLoadWord w s
  | .loadNRise => Sys2Proof.Machine.execLoadNRise s
  | .rstNAssert => Sys2Proof.Machine.execRstNAssert s
  | .rstNRelease => Sys2Proof.Machine.execRstNRelease s
  | .gateSample samples => Sys2Proof.Machine.execGateSample samples s
  | .loadPortArmed => Sys2Proof.Machine.execLoadPortArmed s

end Sys2Proof.Machine
end

