-- ==== Sys2Proof/Safety.lean ====
section
/-!
DEFINITION. The terms of the claims: when a command completes, which properties of the state every step keeps, and the
sender's situations that several claims speak about (a write of one word that waits to be taken, an input whose run is
due). Each property cites the rule of spec/ it stands for.
-/

namespace Sys2Proof.Machine

/-! ## Completing and keeping -/

/-- Command `c` at `s` answers a next state of which `P` holds. -/
def Completes (c : Instr) (s : State) (P : State → Prop) : Prop := ∃ t, exec c s = .next t ∧ P t

/-- Every step keeps `Inv`. -/
def KeptByStep (Inv : State → Prop) : Prop := ∀ s t : State, Inv s → step s = .next t → Inv t

/-! ## Situations -/

/-- A write of one data word `w` at address `a` for preamplifier `p` alone stands in the block buffer, the part is
CONFIGURED and the emission list is empty, so that the write can be taken (R4). -/
def OneWordWrite (s : State) (p : Side) (kept : BitVec 6) (a : RegAddr) (w : Word) : Prop :=
  s.rst = false ∧ s.loader.config = .configured ∧ s.link.emission = [] ∧
    s.link.buffer = some ⟨decide (p = .a), decide (p = .b), kept, a, [w], false⟩

/-- The same for a two-target write of one data word. -/
def TwoTargetWrite (s : State) (kept : BitVec 6) (a : RegAddr) (w : Word) : Prop :=
  s.rst = false ∧ s.loader.config = .configured ∧ s.link.emission = [] ∧
    s.link.buffer = some ⟨true, true, kept, a, [w], false⟩

/-- What the processing of one word position of a block settles: its forwarding pair (R9), its address and word, and
the transactions of the writes that it released, in their order (R10). -/
structure BlockPosition where
  toA : Bool
  toB : Bool
  addr : RegAddr
  word : Word
  released : List Txn

/-- The positions of a block whose next word has address `a`, and the state after the last: each word is processed for
A and then for B, where they are targets, in the state that the words before it left (R1, R7). Each is given an empty
emission list, so that what stands there afterwards is what it released. -/
def blockPositions (b : BlockWrite) (a : RegAddr) : List Word → State → List BlockPosition × State
  | [], s => ([], s)
  | w :: rest, s =>
    let ra := if b.toA then processWord .a a w (s.setEmission []) else (s.setEmission [], .drop)
    let rb := if b.toB then processWord .b a w ra.1 else (ra.1, .drop)
    let later := blockPositions b (a + 1) rest rb.1
    (⟨b.toA && ra.2 = .forward, b.toB && rb.2 = .forward, a, w, rb.1.link.emission⟩ :: later.1, later.2)

/-- The run of a position goes on with the next position: both have one forwarding pair, not that of a word forwarded to
neither (R9). -/
def BlockPosition.goesOn (p : BlockPosition) : List BlockPosition → Bool
  | [] => false
  | q :: _ => (p.toA || p.toB) && q.toA = p.toA && q.toB = p.toB

/-- The downstream transactions of a block: its maximal runs of consecutive positions with one forwarding pair, none
for the pair of a word forwarded to neither, each run ended by a release, whose transactions follow it (R9, R10). -/
def blockRuns (kept : BitVec 6) : List BlockPosition → List Txn
  | [] => []
  | p :: rest =>
    let own : List Txn := if p.toA || p.toB then [⟨p.toA, p.toB, kept, p.addr, [p.word]⟩] else []
    if p.released ≠ [] then own ++ p.released ++ blockRuns kept rest
    else
      match blockRuns kept rest with
      | [] => own
      | t :: more =>
        if p.goesOn rest then ⟨p.toA, p.toB, kept, p.addr, p.word :: t.words⟩ :: more else own ++ t :: more

/-- The downstream transaction that forwards one word to preamplifier `p` (R8, R9). -/
def wordTxn (p : Side) (kept : BitVec 6) (a : RegAddr) (w : Word) : Txn :=
  ⟨decide (p = .a), decide (p = .b), kept, a, [w]⟩

/-- The link when such a write has been taken and its word is forwarded: the buffer is free and the word's transaction
is alone on the list. -/
def Link.forwardedWord (l : Link) (p : Side) (kept : BitVec 6) (a : RegAddr) (w : Word) : Link :=
  { l with buffer := none, emission := [wordTxn p kept a w] }

/-- The link when such a write has been taken and nothing is forwarded: buffer and list are clear, so ULWT is released
(R2). -/
def Link.drained (l : Link) : Link := { l with buffer := none, ulwt := false }

/-- The word is a CONTROL word of `p`: window `i` is the first match and its kind is CONTROL (R23, R26). -/
def ControlMatch (s : State) (p : Side) (a : RegAddr) (i : Fin 16) : Prop :=
  s.findWindow p a = some i ∧ (s.windows[i.val]).kind = .control

/-- The word is a value-window word of `p` for the code `n` (R28). -/
def ValueMatch (s : State) (p : Side) (a : RegAddr) (i : Fin 16) (n : CodeName) : Prop :=
  s.findWindow p a = some i ∧ (s.windows[i.val]).kind = (match n with
    | .threshold => .threshold
    | .operating => .operating)

/-- The next sample at `level` completes a run on this qualifier: an edge to `level` is taken at it (R61). -/
def EdgeDue (q : Nat) (g : Qualifier) (level : Bool) : Prop := g.level ≠ level ∧ q - 1 ≤ g.run

/-- The slot that the next slot start begins (R124). -/
def State.slotToCome (s : State) : Fin 8 := nextSlot s.framer.slot

/-- A frame start falls now and is still to be taken: with the slot start to come, or after the word of the running
slot 0, which was taken ahead of it (R125). -/
def State.FrameStartNow (s : State) : Prop :=
  (s.slotToCome = 0 ∧ s.framer.split = .whole) ∨ s.framer.split = .frameOwed

/-- The owner that the effective slot map gives to the slot that the next slot start begins: at the start of slot 1 the
map is fixed first, by lending from the base map, unless that has been done already (R130, R131;
assumption log 14, 21 and 22). -/
def State.ownerToCome (s : State) : SlotOwner :=
  if s.slotToCome = 1 ∧ s.framer.split ≠ .eventTaken then
    match s.framer.baseMap[1] with
    | .chan x =>
      if !s.inEpisode x && s.framer.level.get x = 0 && !s.framer.urgent.get x && s.inEpisode x.other then
        .chan x.other
      else .chan x
    | .report => .report
    | .none => .none
  else s.framer.effectiveMap[s.slotToCome.val]

/-! ## Properties that every step keeps -/

/-- How many data words the emission list holds (R8). -/
def emissionWords (l : List Txn) : Nat := (l.map fun t => t.words.length).sum

/-- The link forwarder's bounds (R5, R8, R12, R13): at most 16 words in the block buffer, at most 40 data words on the
emission list even when every held entry is released onto it, every transaction with a target and 1 to 16 words, and
the downstream link with the emitter or with a read, never with both. -/
def LinkBounded (s : State) : Prop :=
  s.held.length ≤ 8 ∧
  emissionWords s.link.emission + s.held.length ≤ 40 ∧
  (∀ b, s.link.buffer = some b → b.words.length ≤ 16) ∧
  (∀ t ∈ s.link.emission, (t.toA = true ∨ t.toB = true) ∧ 1 ≤ t.words.length ∧ t.words.length ≤ 16) ∧
  (s.link.sending = true → s.link.emission ≠ [] ∧
    ∀ r, s.link.upstream = .reading r → r.phase ≠ .forwarded)

/-- The held-write queue's bounds (R36): at most 8 entries, never two with one key, and only entries of preamplifiers
whose channel is in an episode state. -/
def HeldBounded (s : State) : Prop :=
  s.held.length ≤ 8 ∧ (s.held.map fun e => (e.side, e.reg)).Nodup ∧ ∀ e ∈ s.held, s.inEpisode e.side = true

/-- A record of the head table within the ranges of R50, R52, R53, R55 and R58. -/
def HeadRecord.inRange (r : HeadRecord) : Prop :=
  r.image.ceiling ≤ 1023 ∧ r.image.kickDelta ≤ 255 ∧ r.image.kickLength ≤ 63 ∧ r.image.preheatFraction ≤ 16 ∧
  r.image.leadBase ≤ 255 ∧ r.image.leadFloor ≤ r.image.leadBase ∧ r.image.thermalGain ≤ 255 ∧
  r.image.leadCredit ≤ 255 ∧ (r.image.enabled = true → 1 ≤ r.image.leadBase) ∧
  (∀ v, r.threshold = some v → v ≤ r.image.ceiling) ∧ (∀ v, r.operating = some v → v ≤ r.image.ceiling) ∧
  r.heat ≤ 65535

/-- Every record of the head table is within its ranges. -/
def HeadsInRange (s : State) : Prop := ∀ x h, (s.headRec x h).inRange

/-- A heat channel whose banks, flags, timers and record agree with its state (R71–R73, R77, R82, R84, R86–R88, R92,
R146). -/
def Channel.wf (c : Channel) : Prop :=
  (c.live.isSome = true ↔ c.state = .preheat ∨ c.state = .ready ∨ c.state = .writing ∨ c.state = .holding) ∧
  (c.staged.isSome = true → c.state = .writing ∨ c.state = .holding) ∧
  (c.leadTimer ≠ .stopped ↔ c.state = .preheat) ∧
  (c.kickTimer ≠ .stopped ↔ c.kickFlag = true) ∧
  (c.kickFlag = true → c.state = .writing) ∧
  (c.dwell.isSome = true ↔ c.state = .preheat ∨ c.state = .ready ∨ c.state = .holding) ∧
  (c.state = .pending ∨ c.state = .preheat ∨ c.state = .ready → c.firstInterval = true ∧ c.record.intervals = 0) ∧
  (c.firstInterval = true → c.state = .pending ∨ c.state = .preheat ∨ c.state = .ready ∨ c.state = .writing) ∧
  (c.state = .writing ∨ c.state = .holding → 1 ≤ c.record.intervals) ∧
  c.record.intervals ≤ 255 ∧ c.record.duration ≤ 65535

/-- The freeze flags agree with the channels (R150–R153): a wait belongs to a channel in WRITING under an active
freeze, a frozen-episode flag to a FROZEN channel, and a channel is FROZEN only under an active freeze. -/
def FreezeWf (s : State) : Prop :=
  ∀ x, (s.freeze.wait.get x = true → (s.chan.get x).state = .writing ∧ s.freeze.active = true) ∧
    (s.freeze.frozenEpisode.get x = true → (s.chan.get x).state = .frozen) ∧
    ((s.chan.get x).state = .frozen → s.freeze.active = true)

/-- Both channels are well formed, and so are the freeze flags. -/
def ChannelsWf (s : State) : Prop := (∀ x, (s.chan.get x).wf) ∧ FreezeWf s

/-- While a channel is in an episode state, its preamplifier's shadow names its episode head with the arm SET (R27). -/
def EpisodeShadowed (s : State) : Prop :=
  ∀ x, s.inEpisode x = true →
    (s.shadow.get x).arm = .set ∧ (s.shadow.get x).head.map Fin.val = some (s.chan.get x).head.val

/-- Nothing is left of an image outside CONFIGURED (R22, R25, R34, R45, R98, R99, R115, R129, R149, R166): channels
IDLE with EMPTY places and no held writes, windows and watch disabled, shadow UNKNOWN, base slot map empty, interval
counter stopped and no freeze in force. -/
def QuietUnconfigured (s : State) : Prop :=
  (∀ x, s.engine.place.get x ≠ none → s.inEpisode x = true) ∧
  (s.loader.config ≠ .configured →
    (∀ x, (s.chan.get x).state = .idle ∧ s.engine.place.get x = none ∧ s.shadow.get x = .unknown) ∧
    s.held = [] ∧ (∀ i : Fin 16, (s.windows[i.val]).enabled = false) ∧
    (∀ i : Fin 4, (s.watch[i.val]).enabled = false) ∧ (∀ k : Fin 8, s.framer.baseMap[k.val] = .none) ∧
    s.thermal.counter = none ∧ s.freeze.active = false)

/-- What the part emits is safe: the two emitted levels fit the supply budget (R141), and a channel's emitted level
above 0 belongs to its episode head or has its urgent OFF pending (R128, R132, R137). -/
def EmissionSafe (s : State) : Prop :=
  s.framer.level.a + s.framer.level.b ≤ s.budget ∧
  ∀ x, s.framer.level.get x = 0 ∨ s.framer.urgent.get x = true ∨
    (s.inEpisode x = true ∧ s.framer.head.get x = (s.chan.get x).head)

/-- The report queue's bound (R163): at most 16 records, and of the head record fewer words sent than it has; nothing
is sent of an empty queue. -/
def ReportsBounded (s : State) : Prop :=
  s.reports.records.length ≤ 16 ∧
    match s.reports.records with
    | [] => s.reports.sent = 0
    | r :: _ => s.reports.sent < r.words.length

/-! ## The drive controller's side of the report stream (R174) -/

/-- A flag of a record's first word. -/
def flagOf (w : Word) (n : Nat) : Bool := w.getLsbD n

/-- The side that a one-bit field names: 0 is A and 1 is B (R174). -/
def sideOfBit (b : Bool) : Side := if b then .b else .a

/-- The outcome that a code names (R174). -/
def outcomeOfCode (n : Nat) : Option EpisodeOutcome :=
  [EpisodeOutcome.complete, .unused, .abortHeadChange, .abortDisarm, .dwell, .frozen, .reload].find? fun o =>
    o.code = n

/-- The disposition that a code names, given the direction bit (R174). -/
def dispositionOfCode (reading : Bool) (n : Nat) : Option TraceDisposition :=
  [TraceDisposition.write .forward, .write .hold, .write .coalesce, .write .drop, .read].find? fun d =>
    d.code = n && (d.directionBit = 1) = reading

/-- A head number of a layout, if it names a record. -/
def headOfField (n : Nat) : Option (Fin 12) := if h : n < 12 then some ⟨n, h⟩ else none

/-- Assemble one record from the front of the stream of REPORT words: the type in bits 15–14 of the first word gives
the length, 4, 2 or 3 (R174). Answers the record and the rest of the stream. -/
def assembleReport : List Word → Option (Report × List Word)
  | [] => none
  | w1 :: rest =>
    if bitField w1 14 2 = 1 then
      match rest, outcomeOfCode (bitField w1 10 3), headOfField (bitField w1 6 4) with
      | w2 :: w3 :: w4 :: rest', some o, some h =>
        some (.episode (sideOfBit (flagOf w1 13)) (BitVec.ofNat 8 (bitField w2 8 8)) h o
          ⟨bitField w2 0 8, bitField w3 0 10, w4.toNat, flagOf w1 3, flagOf w1 2, flagOf w1 1, flagOf w1 0⟩, rest')
      | _, _, _ => none
    else if bitField w1 14 2 = 2 then
      match rest, EventKind.ofCode (bitField w1 9 4) with
      | w2 :: rest', some k =>
        some (.event (sideOfBit (flagOf w1 13)) k (flagOf w1 8) (flagOf w1 7) (flagOf w1 6)
          (BitVec.ofNat 8 (bitField w2 8 8)), rest')
      | _, _ => none
    else if bitField w1 14 2 = 3 then
      match rest with
      | w2 :: w3 :: rest' =>
        match dispositionOfCode (flagOf w1 10) (bitField w2 0 3) with
        | some d =>
          some (.trace (Fin.ofNat 4 (bitField w1 12 2)) (sideOfBit (flagOf w1 11))
            (BitVec.ofNat 7 (bitField w1 0 7)) d w3, rest')
        | none => none
      | _ => none
    else none

/-- A record whose counts fit their fields (R94): intervals 0–255, peak 0–1023, duration 0–65535. -/
def Report.fits : Report → Prop
  | .episode _ _ _ _ r => r.intervals ≤ 255 ∧ r.peak ≤ 1023 ∧ r.duration ≤ 65535
  | .event _ _ _ _ _ _ => True
  | .trace _ _ _ _ _ => True

end Sys2Proof.Machine
end

