-- ==== Sys2Proof/Certificates/Slice0/Obligations.lean ====
section
/-!
DEFINITION. What is claimed of the model, for the provers: the machine as a whole, the control link, the capture map
and the held writes, the head table, the gate lines, the heat channels and the freeze, the plan engine, the thermal
model, the laser bus and the supply budget, the event unit, the report queue and the link watch, the load port and
RST_N, and the formats. Each docstring names the rules of spec/ that a statement rests on.
-/

open Sys2Proof Sys2Proof.Machine

/-! ## The machine as a whole -/

/-- A step takes the command at the front of the queue and executes it with the queue's rest; on an empty queue the
block idles (the queue and the idling are the model's: assumption log 1 and 2). -/
def Obligations.StepRunsFrontCommand : Prop :=
  (∀ (s : State) (c : Instr) (rest : List Instr),
    step { s with pending := c :: rest } = exec c { s with pending := rest }) ∧
  ∀ s : State, s.pending = [] → step s = .next s

/-- No command ever faults or is refused, and no command touches the queue. While RST_N is asserted every command but
RST_N's own two and the level of ULEN leaves the whole part as it is (R19, R69, R96, R139, R168; that no command faults
and that a command whose event cannot happen changes nothing is the model's reading: assumption log 6 and 20). -/
def Obligations.EveryCommandAnswersNext : Prop :=
  ∀ (c : Instr) (s : State),
    Completes c s (fun t => t.pending = s.pending) ∧
    (s.rst = true → c ≠ .rstNAssert → c ≠ .rstNRelease → c ≠ .ulenFall → (∀ ws, c ≠ .ulenRise ws) →
      exec c s = .next s)

/-- The reset state meets every invariant that is claimed of the steps (the model's reset state: assumption log 7 and
8). -/
def Obligations.ResetMeetsInvariants : Prop :=
  LinkBounded .reset ∧ HeldBounded .reset ∧ HeadsInRange .reset ∧ ChannelsWf .reset ∧ EpisodeShadowed .reset ∧
    QuietUnconfigured .reset ∧ EmissionSafe .reset ∧ ReportsBounded .reset

/-! ## RST_N -/

/-- RST_N asserted: every block takes its "After RST_N" values; an open upstream transaction is ignored until ULEN
rises; the drive levels of the preamplifiers stay as they are (R19, R22, R25, R36, R46, R60, R69, R71, R96, R102, R139,
R162 and the other reset rules; what RST_N leaves outside the part is the model's reading: assumption log 18). -/
def Obligations.RstNAssertResetsEveryBlock : Prop :=
  ∀ s : State, Completes .rstNAssert s fun t =>
    t.rst = true ∧ t.pending = s.pending ∧ t.drives = s.drives ∧
    t.loader = ⟨.unconfigured, false, [], []⟩ ∧
    t.link.buffer = none ∧ t.link.emission = [] ∧ t.link.sending = false ∧ t.link.ulwt = false ∧
    t.link.ulda = none ∧ t.dlenLow = false ∧
    (s.link.upstream = .closed → t.link.upstream = .closed) ∧
    (s.link.upstream ≠ .closed → t.link.upstream = .ignored) ∧
    (∀ i : Fin 16, (t.windows[i.val]).enabled = false) ∧ (∀ i : Fin 4, (t.watch[i.val]).enabled = false) ∧
    t.held = [] ∧
    (∀ x, t.shadow.get x = ⟨none, .unknown⟩) ∧
    (∀ x h, t.headRec x h = ⟨⟨false, 0, 0, 0, 0, 0, 0, 0, 0⟩, none, none, 0⟩) ∧
    t.gates.q = 16 ∧ (∀ x, t.gates.wg.get x = ⟨false, 0⟩ ∧ t.gates.sg.get x = ⟨false, 0⟩ ∧ t.gateOut x = false) ∧
    t.gates.frz = ⟨false, 0⟩ ∧
    (∀ x, t.chan.get x =
      { state := .idle, head := 0, episode := 0, live := none, staged := none, firstInterval := false
        kickFlag := false, leadTimer := .stopped, kickTimer := .stopped, dwell := none
        record := ⟨0, 0, 0, false, false, false, false⟩ }) ∧
    t.engine.unit = none ∧ (∀ x, t.engine.place.get x = none) ∧ t.engine.lastServed = .a ∧
    t.thermal.interval = 0 ∧ t.thermal.decay = 0 ∧ t.thermal.gain = 0 ∧ t.thermal.counter = none ∧
    t.framer.slot = none ∧ t.framer.lbda = 0 ∧ t.framer.lbds = 0 ∧
    (∀ k : Fin 8, t.framer.baseMap[k.val] = .none ∧ t.framer.effectiveMap[k.val] = .none) ∧
    (∀ x, t.framer.level.get x = 0 ∧ t.framer.head.get x = 0 ∧ t.framer.urgent.get x = false) ∧
    t.budget = 0 ∧ t.dwellLimit = 0 ∧ t.earlyPolicy = .strict ∧
    t.freeze.mode = .run ∧ t.freeze.active = false ∧
    (∀ x, t.freeze.wait.get x = false ∧ t.freeze.frozenEpisode.get x = false) ∧
    (∀ x, t.events.kinds.get x = []) ∧ t.events.mask = 0 ∧ t.faultLow = false ∧
    t.reports.records = [] ∧ t.reports.sent = 0

/-- RST_N released: nothing else changes, and the first slot start is slot 0 of a new frame carrying ALL_OFF to {A, B}.
The slot start after it is slot 1, and by then every laser that the reset left lit is off (R124, R138, R139; that a word
is latched at the slot's end, and that a slot start can be taken in two parts, is the model's reading: assumption log 19
and 21). -/
def Obligations.ReleaseStartsFrameAllOff : Prop :=
  (∀ s : State, exec .rstNRelease s = .next { s with rst := false }) ∧
  ∀ (s t u v w : State) (first second : SlotPart), first ≠ .event → second ≠ .event →
    exec .rstNAssert s = .next t → exec .rstNRelease t = .next u → exec (.slotStart first) u = .next v →
    exec (.slotStart second) v = .next w →
    v.framer.slot = some 0 ∧ v.lbfs = true ∧ v.framer.lbda = 0x8000#16 ∧ v.framer.lbds = 3#3 ∧
    v.drives = s.drives ∧
    w.framer.slot = some 1 ∧ w.lbfs = false ∧ ∀ x, ∀ h : Fin 12, (w.drives.get x)[h.val] = 0

/-! ## The control link -/

/-- A fall of ULEN opens an upstream transaction, and asserts ULWT when the emission list holds a transaction or the
block buffer a write that is not yet taken; under RST_N the transaction is ignored (R2, R19; the fall under RST_N is the
model's reading: assumption log 12). -/
def Obligations.UlenFallOpensTransaction : Prop :=
  ∀ s : State, s.link.upstream = .closed →
    (s.rst = false → exec .ulenFall s = .next { s with link := { s.link with
      upstream := .opened
      ulwt := decide (s.link.emission ≠ [] ∨ s.link.buffer ≠ none) } }) ∧
    (s.rst = true → exec .ulenFall s = .next { s with link := { s.link with upstream := .ignored } })

/-- A rise of ULEN closes the transaction and releases ULWT: a write with a complete header is received, its first 16
data words kept; less than a header leaves nothing; a read ends, forwarded or cancelled, and the downstream link is the
emitter's again; a transaction ignored since RST_N leaves nothing (R2, R3, R5, R16, R19; whole words only, assumption
log 11 and 12). -/
def Obligations.UlenRiseClosesTransaction : Prop :=
  (∀ (s : State) (toA toB : Bool) (kept : BitVec 6) (a : RegAddr) (data : List Word),
    s.link.upstream = .opened → s.link.ulwt = false →
    exec (.ulenRise (encodeHeader ⟨false, toA, toB, kept, a⟩ :: data)) s = .next { s with link := { s.link with
      upstream := .closed, ulwt := false, ulda := none
      buffer := some ⟨toA, toB, kept, a, data.take 16, decide (16 < data.length)⟩ } }) ∧
  (∀ s : State, s.link.upstream = .opened →
    exec (.ulenRise []) s = .next { s with link := { s.link with
      upstream := .closed, ulwt := false, ulda := none } }) ∧
  (∀ (s : State) (r : ReadTxn) (ws : List Word), s.link.upstream = .reading r →
    Completes (.ulenRise ws) s fun t =>
      t = { s with link := { s.link with upstream := .closed, ulwt := false, ulda := none } } ∧
        t.dlenLow = s.link.sending) ∧
  ∀ (s : State) (ws : List Word), s.link.upstream = .ignored →
    exec (.ulenRise ws) s = .next { s with link := { s.link with
      upstream := .closed, ulwt := false, ulda := none } }

/-- The header of a read decides how it is answered, by the table of R13: with 0xFFFF for an empty target set in every
state and for {A, B} in CONFIGURED; otherwise it is to be forwarded, under ULWT while the emission list is not empty. A
read to be forwarded takes the downstream link when the list is empty: DLEN falls and a read header with the same target
set, kept bits and address is sent; it waits while the list holds anything, also for a release that is
appended after the header, ULWT then staying as it is (R13, R16; R13 is silent on a release appended between the header
and the fall of DLEN, and what happens then is the model's choice: assumption log 23). -/
def Obligations.ReadHeaderDecidesAnswer : Prop :=
  (∀ (s : State) (toA toB : Bool) (kept : BitVec 6) (a : RegAddr),
    s.rst = false → s.link.upstream = .opened → s.link.ulwt = false →
    (((toA = false ∧ toB = false) ∨ (toA = true ∧ toB = true ∧ s.loader.config = .configured)) →
      exec (.readHeader (encodeHeader ⟨true, toA, toB, kept, a⟩)) s = .next { s with link := { s.link with
        upstream := .reading ⟨toA, toB, kept, a, .answered⟩ } }) ∧
    (¬((toA = false ∧ toB = false) ∨ (toA = true ∧ toB = true ∧ s.loader.config = .configured)) →
      exec (.readHeader (encodeHeader ⟨true, toA, toB, kept, a⟩)) s = .next { s with link := { s.link with
        upstream := .reading ⟨toA, toB, kept, a, .waiting⟩
        ulwt := decide (s.link.emission ≠ []) } })) ∧
  ∀ (s : State) (r : ReadTxn), s.rst = false → s.link.upstream = .reading r → r.phase = .waiting →
    (s.link.emission = [] → s.link.sending = false → Completes .forwardedReadStart s fun t =>
      t.dlenLow = true ∧
      t = { s with link := { s.link with
        upstream := .reading { r with phase := .forwarded }
        dlda := [encodeHeader ⟨true, r.toA, r.toB, r.kept, r.addr⟩] } }) ∧
    (s.link.emission ≠ [] → exec .forwardedReadStart s = .next s)

/-- A data word of a single-target read in CONFIGURED is handed upstream with the address that follows for the next
word: the whole held value when the queue holds the register's key; otherwise, in a FAULT_STATUS window, the returned
word with the window's field replaced by the merged code (1 or 0 in a one-bit field); otherwise the returned word.
Nothing else changes but the TRACE record of a watched word (R14, R24, R41, R159, R167). -/
def Obligations.ReadWordSubstitutes : Prop :=
  ∀ (s : State) (p : Side) (r : ReadTxn) (returned : Word),
    s.rst = false → s.loader.config = .configured → s.link.upstream = .reading r → r.phase = .forwarded →
    r.toA = decide (p = .a) → r.toB = decide (p = .b) →
    ∃ w : Word,
      exec (.readWord returned) s = .next { traceWord p r.addr .read w s with link := { s.link with
        upstream := .reading { r with addr := r.addr + 1 }, ulwt := false, ulda := some w } } ∧
      (∀ e, s.heldFor p r.addr = some e → w = e.value) ∧
      (s.heldFor p r.addr = none → ∀ i, s.findWindow p r.addr = some i →
        (s.windows[i.val]).kind = .faultStatus →
        let x := (s.windows[i.val]).ext1
        let code := mergedCode s.events.mask (s.events.kinds.get p)
        ∀ n : Nat, n < 16 → w.getLsbD n =
          if x.low ≤ n ∧ n < x.low + x.effectiveWidth then
            (if x.effectiveWidth = 1 then decide (code ≠ 0) else code.testBit (n - x.low))
          else returned.getLsbD n) ∧
      (s.heldFor p r.addr = none →
        (∀ i, s.findWindow p r.addr = some i → (s.windows[i.val]).kind ≠ .faultStatus) → w = returned)

/-- A word of a forwarded read outside CONFIGURED, or of a forwarded two-target read, passes exactly as sampled, and
every word of a read that is not forwarded is answered with 0xFFFF; nothing else happens in the part (R15, R17). -/
def Obligations.RawAndUnforwardedReadWords : Prop :=
  (∀ (s : State) (r : ReadTxn) (returned : Word), s.rst = false → s.link.upstream = .reading r →
    r.phase = .forwarded → (s.loader.config ≠ .configured ∨ r.toA = r.toB) →
    exec (.readWord returned) s = .next { s with link := { s.link with
      upstream := .reading { r with addr := r.addr + 1 }, ulwt := false, ulda := some returned } }) ∧
  ∀ (s : State) (r : ReadTxn), s.rst = false → s.link.upstream = .reading r → r.phase = .answered →
    exec .readAnswerFfff s = .next { s with link := { s.link with
      upstream := .reading { r with addr := r.addr + 1 }, ulwt := false, ulda := some 0xFFFF#16 } }

/-- A write whose target set is empty is discarded without effect when it is taken, in every configuration state (R6);
the block buffer is free again, and ULWT is released since the list is empty (R2). -/
def Obligations.EmptyTargetWriteDiscarded : Prop :=
  ∀ (s : State) (b : BlockWrite), s.rst = false → s.link.buffer = some b → b.toA = false → b.toB = false →
    s.link.emission = [] →
    exec .writeTaken s = .next { s with link := { s.link with buffer := none, ulwt := false } }

/-- A received write is taken only at an empty emission list (R4). Two kinds of write go downstream whole, as one
transaction with the header's target set, kept bits and address and the words in block order, with no other effect: a
write taken outside CONFIGURED, with no event for an overlong block (R5, R17), and a write taken in CONFIGURED no word
of which matches a window or a watch entry for a targeted preamplifier, which is one run whatever its length (R1, R7,
R9, R23). A write without words forwards nothing and has no effect (R3). In general a write taken in CONFIGURED is
processed word by word, each word for A and then for B at the address that follows, in the state that the words before
it left; its forwarded words are cut into maximal runs of one forwarding pair, and what a word releases stands behind
the runs through that word and ends them (R1, R7, R9, R10, R42). A word whose episode ends with no held entry releases
nothing and ends no run: that is the model's reading of R10 and R42 (assumption log 13). -/
def Obligations.UnclassifiedWritesPassWhole : Prop :=
  ∀ (s : State) (b : BlockWrite), s.rst = false → s.link.buffer = some b →
    (s.link.emission ≠ [] → exec .writeTaken s = .next s) ∧
    (s.link.emission = [] → (b.toA = true ∨ b.toB = true) →
      (s.loader.config ≠ .configured → b.words ≠ [] → exec .writeTaken s = .next { s with link := { s.link with
        buffer := none, emission := [⟨b.toA, b.toB, b.kept, b.addr, b.words⟩] } }) ∧
      (b.overlong = false → b.words = [] → exec .writeTaken s = .next { s with link := { s.link with
        buffer := none, ulwt := false } }) ∧
      (s.loader.config = .configured → b.overlong = false →
        let r := blockPositions b b.addr b.words { s with link := { s.link with buffer := none } }
        let emission := blockRuns b.kept r.1
        exec .writeTaken s = .next { r.2 with link := { s.link with
          buffer := none, emission := emission, ulwt := s.link.ulwt && !emission.isEmpty } }) ∧
      (s.loader.config = .configured → b.overlong = false → b.words ≠ [] →
        (∀ p, targets b.toA b.toB p = true → ∀ n : Nat, n < b.words.length →
          s.findWindow p (b.addr + BitVec.ofNat 7 n) = none ∧
          s.findWatch p (b.addr + BitVec.ofNat 7 n) false = none) →
        exec .writeTaken s = .next { s with link := { s.link with
          buffer := none, emission := [⟨b.toA, b.toB, b.kept, b.addr, b.words⟩] } }))

/-- A write that carried more than 16 words, taken in CONFIGURED, raises OVERLONG_BLOCK once for each targeted
preamplifier, A's before B's, before its first word is processed; the kept words are then processed like any other
block (R5, R7). -/
def Obligations.OverlongBlockRaisesFirst : Prop :=
  ∀ (s : State) (b : BlockWrite), s.rst = false → s.loader.config = .configured → s.link.emission = [] →
    s.link.buffer = some b → b.overlong = true → (b.toA = true ∨ b.toB = true) →
    let sA := if b.toA then raiseEvent .a .overlongBlock false s else s
    let sB := if b.toB then raiseEvent .b .overlongBlock false sA else sA
    exec .writeTaken s =
      exec .writeTaken { sB with link := { sB.link with buffer := some { b with overlong := false } } }

/-- The emitter starts the transaction at the head of the list while DLEN is high, never while a read holds the
downstream link; the transaction leaves the list when its last word has gone, and ULWT is released when that leaves the
list empty and the block buffer is free (R8, R12, R16). -/
def Obligations.EmitterSendsFromTheHead : Prop :=
  ∀ (s : State) (t : Txn) (rest : List Txn), s.rst = false → s.link.emission = t :: rest →
    (s.dlenLow = false → exec .emitterSend s = .next { s with link := { s.link with
      sending := true, dlda := [encodeHeader ⟨false, t.toA, t.toB, t.kept, t.addr⟩] } }) ∧
    (∀ r, s.link.upstream = .reading r → r.phase = .forwarded → exec .emitterSend s = .next s) ∧
    (s.link.sending = true → exec .transactionSent s = .next { s with link := { s.link with
      emission := rest, sending := false
      dlda := encodeHeader ⟨false, t.toA, t.toB, t.kept, t.addr⟩ :: t.words
      ulwt := s.link.ulwt && !(rest.isEmpty && s.link.buffer.isNone) } })

/-- Every step keeps the link forwarder's bounds: the emission list never holds more than 40 words (R8), the block
buffer never more than 16 (R5), and the downstream link is never the emitter's and a read's at once (R12, R13). -/
def Obligations.LinkStaysBounded : Prop := KeptByStep LinkBounded

/-! ## The capture map and the heat channels' CONTROL effects -/

/-- A CONTROL word sets its preamplifier's shadow to the written head (a value above 15 taken as 15) and the written
arm, whatever state the channel is in. The word is forwarded first, before the writes it releases, all of them for the
same preamplifier with kept bits 0. The other side's channel, shadow, records and held entries do not change, and neither
do the windows, the gates, the parameters or the bus (R10, R26, R27, R44): of the framer only the urgent OFF flag of
the word's channel. -/
def Obligations.ControlWordSetsShadow : Prop :=
  ∀ (s : State) (p : Side) (kept : BitVec 6) (a : RegAddr) (w : Word) (i : Fin 16),
    OneWordWrite s p kept a w → ControlMatch s p a i →
    Completes .writeTaken s fun t =>
      (t.shadow.get p).head.map Fin.val = some (min ((s.windows[i.val]).ext1.value w) 15) ∧
      ((s.windows[i.val]).ext2.value w ≠ 0 → (t.shadow.get p).arm = .set) ∧
      ((s.windows[i.val]).ext2.value w = 0 → (t.shadow.get p).arm = .clear) ∧
      (∃ released, t.link.emission = wordTxn p kept a w :: released ∧
        ∀ x ∈ released, x.toA = decide (p = .a) ∧ x.toB = decide (p = .b) ∧ x.kept = 0 ∧ x.words.length = 1) ∧
      t.link.buffer = none ∧ t.link.upstream = s.link.upstream ∧
      t.shadow.get p.other = s.shadow.get p.other ∧ t.chan.get p.other = s.chan.get p.other ∧
      t.heads.get p.other = s.heads.get p.other ∧
      t.held.filter (fun e => e.side ≠ p) = s.held.filter (fun e => e.side ≠ p) ∧
      t.engine.place.get p.other = s.engine.place.get p.other ∧ t.engine.unit = s.engine.unit ∧
      t.framer = { s.framer with urgent := s.framer.urgent.set p (t.framer.urgent.get p) } ∧
      t.earlyPolicy = s.earlyPolicy ∧ t.freeze.mode = s.freeze.mode ∧ t.freeze.active = s.freeze.active ∧
      t.freeze.wait.get p.other = s.freeze.wait.get p.other ∧ t.events.mask = s.events.mask ∧ t.rst = false ∧
      t.windows = s.windows ∧ t.gates = s.gates ∧ t.thermal = s.thermal ∧ t.loader = s.loader ∧
      t.budget = s.budget ∧ t.dwellLimit = s.dwellLimit ∧ t.watch = s.watch ∧ t.drives = s.drives

/-- A CONTROL word that arms a valid, enabled and calibrated head for a channel in IDLE begins an episode: PENDING for
the new head under the next episode number, a cleared record, the first-interval flag set, an ARM request posted, the
word forwarded and traced, and nothing else (R27, R73). -/
def Obligations.ArmAcceptedFromIdle : Prop :=
  ∀ (s : State) (p : Side) (kept : BitVec 6) (a : RegAddr) (w : Word) (i : Fin 16) (h : Fin 12),
    OneWordWrite s p kept a w → ControlMatch s p a i → (s.chan.get p).state = .idle →
    (s.windows[i.val]).ext1.value w = h.val → (s.windows[i.val]).ext2.value w ≠ 0 →
    ¬((s.shadow.get p).arm = .set ∧ (s.shadow.get p).head.map Fin.val = some h.val) →
    (s.headRec p h).image.enabled = true → (s.headRec p h).threshold ≠ none → (s.headRec p h).operating ≠ none →
    exec .writeTaken s = .next (traceWord p a (.write .forward) w
      { s with
        link := s.link.forwardedWord p kept a w
        shadow := s.shadow.set p ⟨some (Fin.castLE (by decide) h), .set⟩
        chan := s.chan.set p { s.chan.get p with
          state := .pending, head := h, episode := (s.chan.get p).episode + 1
          record := ⟨0, 0, 0, false, false, false, false⟩, firstInterval := true, kickFlag := false }
        engine := { s.engine with place := s.engine.place.set p (some .arm) } })

/-- A CONTROL word that arms a head a channel in IDLE cannot take raises the event of the first check that fails,
BAD_HEAD before HEAD_DISABLED before NO_CALIBRATION, and puts the channel into FAULTED; number, head, banks and record
stay, no request is posted, and the word is forwarded all the same (R26, R73, R74). -/
def Obligations.ArmRefusedFromIdle : Prop :=
  ∀ (s : State) (p : Side) (kept : BitVec 6) (a : RegAddr) (w : Word) (i : Fin 16) (h : Fin 16) (k : EventKind),
    OneWordWrite s p kept a w → ControlMatch s p a i → (s.chan.get p).state = .idle →
    h.val = min ((s.windows[i.val]).ext1.value w) 15 → (s.windows[i.val]).ext2.value w ≠ 0 →
    ¬((s.shadow.get p).arm = .set ∧ (s.shadow.get p).head = some h) →
    ((12 ≤ h.val ∧ k = .badHead) ∨
      (∃ g : Fin 12, g.val = h.val ∧ (s.headRec p g).image.enabled = false ∧ k = .headDisabled) ∨
      (∃ g : Fin 12, g.val = h.val ∧ (s.headRec p g).image.enabled = true ∧
        ((s.headRec p g).threshold = none ∨ (s.headRec p g).operating = none) ∧ k = .noCalibration)) →
    exec .writeTaken s = .next (traceWord p a (.write .forward) w
      (raiseEvent p k false
        { s with
          link := s.link.forwardedWord p kept a w
          shadow := s.shadow.set p ⟨some h, .set⟩
          chan := s.chan.set p { s.chan.get p with state := .faulted } }))

/-- A CONTROL word that names the running episode's head with the arm set again changes nothing in the channel: state,
banks, timers, flags, dwell counter and record stay, and the word is forwarded and traced (R26, R91). -/
def Obligations.RearmChangesNothing : Prop :=
  ∀ (s : State) (p : Side) (kept : BitVec 6) (a : RegAddr) (w : Word) (i : Fin 16) (h : Fin 16),
    OneWordWrite s p kept a w → ControlMatch s p a i → s.inEpisode p = true →
    s.shadow.get p = ⟨some h, .set⟩ →
    h.val = min ((s.windows[i.val]).ext1.value w) 15 → (s.windows[i.val]).ext2.value w ≠ 0 →
    exec .writeTaken s = .next (traceWord p a (.write .forward) w
      { s with link := s.link.forwardedWord p kept a w })

/-- A CONTROL word with the arm clear ends an episode. Naming the shadow's head it is a DISARM: outcome ABORT_DISARM
after DISARM_WHILE_WRITING from WRITING, COMPLETE from HOLDING, UNUSED from the other three. Naming another head it is a
SWITCH: outcome ABORT_HEAD_CHANGE, after HEAD_CHANGE_ACTIVE from WRITING or HOLDING. The channel goes to IDLE; under a
freeze wait it goes on to FROZEN in the same act, with the wait and its frozen-episode flag clear. The released writes
follow the word on the emission list (R10, R27, R88, R89, R93, R151). -/
def Obligations.DisarmAndSwitchEndEpisode : Prop :=
  ∀ (s : State) (p : Side) (kept : BitVec 6) (a : RegAddr) (w : Word) (i : Fin 16) (h : Fin 16),
    OneWordWrite s p kept a w → ControlMatch s p a i → s.inEpisode p = true →
    h.val = min ((s.windows[i.val]).ext1.value w) 15 → (s.windows[i.val]).ext2.value w = 0 →
    let s1 := { s with
      link := s.link.forwardedWord p kept a w
      shadow := s.shadow.set p ⟨some h, .clear⟩ }
    let st := (s.chan.get p).state
    let goOn (t : State) : State :=
      if s.freeze.wait.get p then { t with
        freeze := { s.freeze with
          wait := s.freeze.wait.set p false, frozenEpisode := s.freeze.frozenEpisode.set p false }
        chan := t.chan.set p { t.chan.get p with state := .frozen } }
      else t
    ((s.shadow.get p).head = some h → exec .writeTaken s = .next (traceWord p a (.write .forward) w
      (goOn (leaveEpisode p .idle
        (if st = .writing then .abortDisarm else if st = .holding then .complete else .unused)
        (if st = .writing then raiseEvent p .disarmWhileWriting false s1 else s1))))) ∧
    ((s.shadow.get p).head ≠ some h → exec .writeTaken s = .next (traceWord p a (.write .forward) w
      (goOn (leaveEpisode p .idle .abortHeadChange
        (if st = .writing ∨ st = .holding then raiseEvent p .headChangeActive false s1 else s1)))))

/-- A CONTROL word that arms another head during an episode ends the old episode with ABORT_HEAD_CHANGE, after
HEAD_CHANGE_ACTIVE from WRITING or HOLDING; the held writes are released and captured first. Then the channel, in IDLE,
takes the arm by the head table as the release left it. A good head begins a new episode in the same act: PENDING under
the next number with everything of the old episode cleared, and an ARM request in the place. A head that fails a check
raises the first failing check's event, and the channel goes to FAULTED. Under a freeze wait the arm starts nothing: the
channel goes on to FROZEN, with the wait and its frozen-episode flag clear (R42, R73, R74, R90, R92, R93, R151). -/
def Obligations.HeadChangeArmBeginsNewEpisode : Prop :=
  ∀ (s : State) (p : Side) (kept : BitVec 6) (a : RegAddr) (w : Word) (i : Fin 16) (h : Fin 16),
    OneWordWrite s p kept a w → ControlMatch s p a i → s.inEpisode p = true →
    h.val = min ((s.windows[i.val]).ext1.value w) 15 → (s.windows[i.val]).ext2.value w ≠ 0 →
    (s.shadow.get p).head ≠ some h →
    let c := s.chan.get p
    let s1 := { s with
      link := s.link.forwardedWord p kept a w
      shadow := s.shadow.set p ⟨some h, .set⟩ }
    let u := leaveEpisode p .idle .abortHeadChange
      (if c.state = .writing ∨ c.state = .holding then raiseEvent p .headChangeActive false s1 else s1)
    (s.freeze.wait.get p = true → exec .writeTaken s = .next (traceWord p a (.write .forward) w { u with
      freeze := { s.freeze with
        wait := s.freeze.wait.set p false, frozenEpisode := s.freeze.frozenEpisode.set p false }
      chan := u.chan.set p { u.chan.get p with state := .frozen } })) ∧
    (s.freeze.wait.get p = false →
      (∀ k : EventKind,
        ((12 ≤ h.val ∧ k = .badHead) ∨
          (∃ g : Fin 12, g.val = h.val ∧ (u.headRec p g).image.enabled = false ∧ k = .headDisabled) ∨
          (∃ g : Fin 12, g.val = h.val ∧ (u.headRec p g).image.enabled = true ∧
            ((u.headRec p g).threshold = none ∨ (u.headRec p g).operating = none) ∧ k = .noCalibration)) →
        exec .writeTaken s = .next (traceWord p a (.write .forward) w (raiseEvent p k false
          { u with chan := u.chan.set p { u.chan.get p with state := .faulted } }))) ∧
      (∀ g : Fin 12, g.val = h.val → (u.headRec p g).image.enabled = true → (u.headRec p g).threshold ≠ none →
        (u.headRec p g).operating ≠ none →
        exec .writeTaken s = .next (traceWord p a (.write .forward) w { u with
          chan := s.chan.set p { c with
            state := .pending, head := g, episode := c.episode + 1, live := none, staged := none
            firstInterval := true, kickFlag := false, leadTimer := .stopped, kickTimer := .stopped, dwell := none
            record := ⟨0, 0, 0, false, false, false, false⟩ }
          engine := { s.engine with place := s.engine.place.set p (some .arm) } }))) ∧
    (∀ g : Fin 12, g.val = h.val → s.freeze.wait.get p = false → (s.headRec p g).image.enabled = true →
      (s.headRec p g).threshold ≠ none → (s.headRec p g).operating ≠ none → s.reports.records.length ≤ 14 →
      Completes .writeTaken s fun t =>
        t.chan.get p = { c with
          state := .pending, head := g, episode := c.episode + 1, live := none, staged := none
          firstInterval := true, kickFlag := false, leadTimer := .stopped, kickTimer := .stopped, dwell := none
          record := ⟨0, 0, 0, false, false, false, false⟩ } ∧
        t.shadow.get p = ⟨some h, .set⟩ ∧
        t.engine.place.get p = some .arm ∧ t.framer.urgent.get p = true ∧
        t.held = s.held.filter (fun e => e.side ≠ p) ∧
        (∃ more, t.reports.records = s.reports.records ++
          (if c.state = .writing ∨ c.state = .holding then
            [Report.event p .headChangeActive false ((s.events.kinds.get p).contains .headChangeActive)
              (isMasked s.events.mask .headChangeActive) c.episode]
          else []) ++
          [Report.episode p c.episode c.head .abortHeadChange c.record] ++ more) ∧
        t.chan.get p.other = s.chan.get p.other ∧ t.engine.unit = s.engine.unit ∧ t.gates = s.gates)

/-- CONTROL words outside the episodes. A channel in FAULTED goes to IDLE at a CONTROL word with the arm clear, without
an event or a record; an ARM runs the checks again, raises the event of a failing check and leaves it FAULTED in every
case; a REARM does nothing. A channel in FROZEN takes no action on any of the four effects, and a channel in IDLE none
on a DISARM, a SWITCH or a REARM: every field of the channel stays. The shadow is updated and the word forwarded each
time (R27, R75, R76, R152). -/
def Obligations.FaultedChannelOnControlWords : Prop :=
  ∀ (s : State) (p : Side) (kept : BitVec 6) (a : RegAddr) (w : Word) (i : Fin 16) (h : Fin 16),
    OneWordWrite s p kept a w → ControlMatch s p a i →
    h.val = min ((s.windows[i.val]).ext1.value w) 15 →
    let s1 := { s with link := s.link.forwardedWord p kept a w }
    ((s.chan.get p).state = .faulted →
      ((s.windows[i.val]).ext2.value w = 0 →
        exec .writeTaken s = .next (traceWord p a (.write .forward) w
          { s1 with
            shadow := s.shadow.set p ⟨some h, .clear⟩
            chan := s.chan.set p { s.chan.get p with state := .idle } })) ∧
      ((s.windows[i.val]).ext2.value w ≠ 0 → s.shadow.get p = ⟨some h, .set⟩ →
        exec .writeTaken s = .next (traceWord p a (.write .forward) w s1)) ∧
      ((s.windows[i.val]).ext2.value w ≠ 0 → ¬((s.shadow.get p).arm = .set ∧ (s.shadow.get p).head = some h) →
        (∀ k, checkArm p h s = .inl k →
          exec .writeTaken s = .next (traceWord p a (.write .forward) w
            (raiseEvent p k false { s1 with shadow := s.shadow.set p ⟨some h, .set⟩ }))) ∧
        (∀ g, checkArm p h s = .inr g →
          exec .writeTaken s = .next (traceWord p a (.write .forward) w
            { s1 with shadow := s.shadow.set p ⟨some h, .set⟩ })))) ∧
    ((s.chan.get p).state = .frozen →
      exec .writeTaken s = .next (traceWord p a (.write .forward) w { s1 with
        shadow := s.shadow.set p ⟨some h, if (s.windows[i.val]).ext2.value w = 0 then .clear else .set⟩ })) ∧
    ((s.chan.get p).state = .idle →
      ((s.windows[i.val]).ext2.value w = 0 →
        exec .writeTaken s = .next (traceWord p a (.write .forward) w
          { s1 with shadow := s.shadow.set p ⟨some h, .clear⟩ })) ∧
      ((s.windows[i.val]).ext2.value w ≠ 0 → s.shadow.get p = ⟨some h, .set⟩ →
        exec .writeTaken s = .next (traceWord p a (.write .forward) w s1)))

/-- A value-window word whose head resolves to 0–11 is captured at once and forwarded when the window does not protect
or the channel is outside the episode states; one whose head is UNKNOWN or 12 or above is forwarded untouched (R29, R30,
R31). What the statements about words are told in: the window of a word is the first of the table that is enabled, holds
the preamplifier and covers the address (R23); the field of an extractor is the bits from its lowest one up, its width
cut off at bit 15 (R24); the head of a value-window word is its address less the window's first register plus the head
base, or, for SELECTED, the selected head of the shadow (R28). -/
def Obligations.ValueWordCapturedOrPassed : Prop :=
  (∀ (s : State) (p : Side) (kept : BitVec 6) (a : RegAddr) (w : Word) (i : Fin 16) (n : CodeName),
    OneWordWrite s p kept a w → ValueMatch s p a i n →
    let s1 := { s with link := s.link.forwardedWord p kept a w }
    (∀ h : Fin 12, resolveHead (s.windows[i.val]) a (s.shadow.get p) = some h.val →
      ((s.windows[i.val]).hold = false ∨ s.inEpisode p = false) →
      exec .writeTaken s = .next (traceWord p a (.write .forward) w
        (captureCode p h n ((s.windows[i.val]).ext1.value w) s1))) ∧
    ((∀ m, resolveHead (s.windows[i.val]) a (s.shadow.get p) = some m → 12 ≤ m) →
      exec .writeTaken s = .next (traceWord p a (.write .forward) w s1))) ∧
  (∀ (s : State) (p : Side) (a : RegAddr),
    let hit (i : Fin 16) : Prop :=
      (s.windows[i.val]).enabled = true ∧
      (match p with
        | .a => (s.windows[i.val]).memberA
        | .b => (s.windows[i.val]).memberB) = true ∧
      (s.windows[i.val]).first.toNat ≤ a.toNat ∧ a.toNat ≤ (s.windows[i.val]).last.toNat
    (∀ i : Fin 16, s.findWindow p a = some i ↔ hit i ∧ ∀ j : Fin 16, j < i → ¬hit j) ∧
    (s.findWindow p a = none ↔ ∀ i : Fin 16, ¬hit i)) ∧
  (∀ (x : Extractor) (w : Word), x.low ≤ 15 → 1 ≤ x.width → x.width ≤ 16 →
    x.effectiveWidth = (if x.low + x.width ≤ 16 then x.width else 16 - x.low) ∧
    x.value w < 2 ^ x.effectiveWidth ∧
    ∀ n : Nat, n < x.effectiveWidth → (x.value w).testBit n = w.getLsbD (x.low + n)) ∧
  ∀ (win : Window) (a : RegAddr) (sh : Shadow),
    (∀ b : Fin 12, win.headBase = .base b → win.first.toNat ≤ a.toNat →
      resolveHead win a sh = some (a.toNat - win.first.toNat + b.val)) ∧
    (win.headBase = .selected → (∀ h : Fin 16, sh.head = some h → resolveHead win a sh = some h.val) ∧
      (sh.head = none → resolveHead win a sh = none))

/-- A protected value-window word during an episode goes to the held-write queue and not downstream: a new entry at the
tail when its key is free and fewer than 8 are held; its value into the entry with its key, moved to the tail, when
there is one; dropped with HOLD_OVERFLOW when 8 are held without its key. The head table keeps its codes (R30, R37,
R38, R39, R47). A two-target word is offered for A and then for B, each with its own key and disposition: with 6 or fewer
entries both are held, A's first; with 7, A's takes the last place and B's is dropped; and where only A's channel is in
an episode state, A's is held, and B's is captured and forwarded to B alone (R7, R30, R40). -/
def Obligations.ProtectedWordHeldCoalescedDropped : Prop :=
  (∀ (s : State) (p : Side) (kept : BitVec 6) (a : RegAddr) (w : Word) (i : Fin 16) (n : CodeName) (h : Fin 12),
    OneWordWrite s p kept a w → ValueMatch s p a i n → (s.windows[i.val]).hold = true → s.inEpisode p = true →
    resolveHead (s.windows[i.val]) a (s.shadow.get p) = some h.val →
    (s.heldFor p a = none → s.held.length < 8 →
      exec .writeTaken s = .next (traceWord p a (.write .hold) w
        { s with link := s.link.drained, held := s.held ++ [⟨p, a, w, i, h⟩] })) ∧
    (∀ e, s.heldFor p a = some e →
      exec .writeTaken s = .next (traceWord p a (.write .coalesce) w
        { s with
          link := s.link.drained
          held := s.held.filter (fun f => !(f.side = p && f.reg = a)) ++ [{ e with value := w }] })) ∧
    (s.heldFor p a = none → 8 ≤ s.held.length →
      exec .writeTaken s = .next (traceWord p a (.write .drop) w
        (raiseEvent p .holdOverflow false { s with link := s.link.drained })))) ∧
  ∀ (s : State) (kept : BitVec 6) (a : RegAddr) (w : Word) (i j : Fin 16) (n m : CodeName) (g h : Fin 12),
    TwoTargetWrite s kept a w → ValueMatch s .a a i n → (s.windows[i.val]).hold = true → s.inEpisode .a = true →
    resolveHead (s.windows[i.val]) a (s.shadow.get .a) = some g.val → s.heldFor .a a = none →
    ValueMatch s .b a j m → (s.windows[j.val]).hold = true →
    resolveHead (s.windows[j.val]) a (s.shadow.get .b) = some h.val → s.heldFor .b a = none →
    let sA (l : Link) := traceWord .a a (.write .hold) w { s with link := l, held := s.held ++ [⟨.a, a, w, i, g⟩] }
    (s.inEpisode .b = true → s.held.length ≤ 6 →
      exec .writeTaken s = .next (traceWord .b a (.write .hold) w
        { sA s.link.drained with held := s.held ++ [⟨.a, a, w, i, g⟩, ⟨.b, a, w, j, h⟩] })) ∧
    (s.inEpisode .b = true → s.held.length = 7 →
      exec .writeTaken s = .next (traceWord .b a (.write .drop) w
        (raiseEvent .b .holdOverflow false (sA s.link.drained)))) ∧
    (s.inEpisode .b = false → s.held.length ≤ 7 →
      exec .writeTaken s = .next (traceWord .b a (.write .forward) w
        (captureCode .b h m ((s.windows[j.val]).ext1.value w) (sA (s.link.forwardedWord .b kept a w)))))

/-- A FAULT_STATUS word is forwarded and clears its preamplifier's pending set: every kind when its field is all ones,
tested first; otherwise the kind with that code, if it is pending; nothing for any other value. No record is queued by
the clear. A FAULT_INJECT word is forwarded and raises the kind with its value as code, with the injected flag, or
nothing for 0 and for values above 15 (R32, R33, R160, R161). -/
def Obligations.ClearAndInjectWords : Prop :=
  ∀ (s : State) (p : Side) (kept : BitVec 6) (a : RegAddr) (w : Word) (i : Fin 16),
    OneWordWrite s p kept a w → s.findWindow p a = some i →
    let s1 := { s with link := s.link.forwardedWord p kept a w }
    let x := (s.windows[i.val]).ext1
    let left : List EventKind :=
      if x.value w = 2 ^ x.effectiveWidth - 1 then []
      else (s.events.kinds.get p).filter fun k => k.code ≠ x.value w
    ((s.windows[i.val]).kind = .faultStatus →
      exec .writeTaken s = .next (traceWord p a (.write .forward) w
        { s1 with events := { s.events with kinds := s.events.kinds.set p left } })) ∧
    ((s.windows[i.val]).kind = .faultInject →
      (∀ k : EventKind, x.value w = k.code →
        exec .writeTaken s = .next (traceWord p a (.write .forward) w (raiseEvent p k true s1))) ∧
      (x.value w = 0 ∨ 15 < x.value w →
        exec .writeTaken s = .next (traceWord p a (.write .forward) w s1)))

/-- A word of a write taken in CONFIGURED, or of a single-target read, that a watch entry matches queues one TRACE
record of the first matching entry, with the disposition and the word; a word that none matches queues nothing. A match
is an enabled entry whose set holds the preamplifier, whose direction is the word's or BOTH, and whose address equals
the word's once the lowest ignore-low bits of both are set aside (R166, R167). -/
def Obligations.WatchedWordLeavesTrace : Prop :=
  ∀ (s : State) (p : Side) (a : RegAddr) (d : TraceDisposition) (w : Word),
    let hit (e : Fin 4) : Prop :=
      (s.watch[e.val]).enabled = true ∧
      targets (s.watch[e.val]).memberA (s.watch[e.val]).memberB p = true ∧
      ((s.watch[e.val]).direction = .both ∨
        (s.watch[e.val]).direction = (if d = .read then .read else .write)) ∧
      ∀ n : Nat, (s.watch[e.val]).ignoreLow ≤ n → a.getLsbD n = (s.watch[e.val]).addr.getLsbD n
    (∀ e : Fin 4, hit e → (∀ f : Fin 4, f < e → ¬hit f) →
      traceWord p a d w s = queueReport (.trace e p a d w) s) ∧
    ((∀ e : Fin 4, ¬hit e) → traceWord p a d w s = s)

/-! ## Held writes and the head table -/

/-- A capture stores the value in place of the code, present from then on, when it is at or below the record's ceiling,
and raises nothing; a value above the ceiling is stored as the ceiling, and SETPOINT_CLAMP is raised for the record's
preamplifier. The other code, the image part and the heat of the record, and every other record, stay (R31, R53). -/
def Obligations.CaptureClampsToCeiling : Prop :=
  ∀ (s : State) (x : Side) (h : Fin 12) (n : CodeName) (v : Nat),
    let r := s.headRec x h
    let stored (u : Nat) : State := s.setHead x h (match n with
      | .threshold => { r with threshold := some u }
      | .operating => { r with operating := some u })
    (v ≤ r.image.ceiling → captureCode x h n v s = stored v) ∧
    (r.image.ceiling < v → captureCode x h n v s = raiseEvent x .setpointClamp false (stored r.image.ceiling)) ∧
    (∀ u, (stored u).headRec x h = (match n with
      | .threshold => { r with threshold := some u }
      | .operating => { r with operating := some u })) ∧
    ∀ (u : Nat) (y : Side) (g : Fin 12), (y, g) ≠ (x, h) → (stored u).headRec y g = s.headRec y g

/-- A release takes the preamplifier's entries in queue order: each leaves the queue, is captured through its stored
window into its stored head's record, and is appended to the emission list as a one-word transaction to the
preamplifier alone with kept bits 0; a release that finds no entry of the preamplifier does nothing. The other side's
entries keep their order (R42, R43, R44; that an empty release appends nothing is the model's reading: assumption log
13). -/
def Obligations.ReleaseTakesEntriesInOrder : Prop :=
  (∀ (s : State) (p : Side), (∀ e ∈ s.held, e.side ≠ p) → releaseHeld p s = s) ∧
  ∀ (s : State) (p : Side) (front back : List HeldEntry) (e : HeldEntry),
    s.held = front ++ e :: back → (∀ f ∈ front, f.side ≠ p) → e.side = p →
    releaseHeld p s = releaseHeld p
      (captureCode p e.head (s.windows[e.window.val]).kind.codeName ((s.windows[e.window.val]).ext1.value e.value)
        { s with
          held := front ++ back
          link := { s.link with emission := s.link.emission ++
            [⟨decide (p = .a), decide (p = .b), 0, e.reg, [e.value]⟩] } })

/-- Leaving the episode states is one act: the channel goes to its destination with timers and dwell counter stopped,
flags clear, both banks EMPTY, and head, number and record kept; an urgent OFF is flagged; the waiting request is
withdrawn; the EPISODE record is queued before the release of the held writes; the planned level is 0 and the forwarded
gate low. The other channel is left alone (R92, R94). -/
def Obligations.LeavingIsOneAct : Prop :=
  ∀ (s : State) (x : Side) (dest : ChanState) (o : EpisodeOutcome),
    (dest = .idle ∨ dest = .faulted ∨ dest = .frozen) →
    let c := s.chan.get x
    let t := leaveEpisode x dest o s
    t.chan = s.chan.set x { c with
      state := dest, live := none, staged := none, firstInterval := false, kickFlag := false
      leadTimer := .stopped, kickTimer := .stopped, dwell := none } ∧
    (t.chan.get x).planned = 0 ∧ t.gateOut x = false ∧
    t.framer = { s.framer with urgent := s.framer.urgent.set x true } ∧
    t.engine = { s.engine with place := s.engine.place.set x none } ∧
    t.held = s.held.filter (fun e => e.side ≠ x) ∧
    t.link = { s.link with emission := s.link.emission ++
      (s.held.filter (fun e => e.side = x)).map (fun e =>
        (⟨decide (x = .a), decide (x = .b), 0, e.reg, [e.value]⟩ : Txn)) } ∧
    (s.reports.records.length < 16 → ∃ more, t.reports.records =
      s.reports.records ++ [Report.episode x c.episode c.head o c.record] ++ more) ∧
    t.heads.get x.other = s.heads.get x.other ∧ t.shadow = s.shadow ∧ t.windows = s.windows ∧
    t.gates = s.gates ∧ t.freeze = s.freeze ∧ t.thermal = s.thermal ∧ t.loader = s.loader

/-- Every step keeps the held-write queue's bounds: at most 8 entries, never two with the same preamplifier and
register, and only entries of preamplifiers whose channel is in an episode state (R36). -/
def Obligations.HeldQueueStaysBounded : Prop := KeptByStep HeldBounded

/-- The parts of a head record have their owners: the image part changes only at the rise of LOAD_N and under RST_N,
the heat only at a thermal expiry and under RST_N, and a code once present becomes ABSENT only under RST_N (R49, R50,
R52, R55). -/
def Obligations.HeadRecordPartsHaveOwners : Prop :=
  ∀ (c : Instr) (s t : State), exec c s = .next t → c ≠ .rstNAssert → ∀ (x : Side) (h : Fin 12),
    (c ≠ .loadNRise → (t.headRec x h).image = (s.headRec x h).image) ∧
    (c ≠ .thermalExpiry → (t.headRec x h).heat = (s.headRec x h).heat) ∧
    ((s.headRec x h).threshold ≠ none → (t.headRec x h).threshold ≠ none) ∧
    ((s.headRec x h).operating ≠ none → (t.headRec x h).operating ≠ none)

/-- Every step keeps every head record in its ranges: each field in the range of R50, every present code at or below
the record's ceiling (R53, R58), the heat at most 65535 (R55). -/
def Obligations.HeadRecordsStayInRange : Prop := KeptByStep HeadsInRange

/-! ## The gate lines -/

/-- The qualifiers take a sample by the table of R61. GATE_SAMPLE, for all five inputs at once: at the qualified level
the run count becomes 0; at the opposite level a run below Q − 1 grows by 1. An edge command, for its input: where the
run is Q − 1 or more the qualified level becomes the new one and the run count 0; where it is less, or the level is the
qualified one already, no edge is taken and nothing happens (R61, R63; that the completing sample is the edge's own
command is the model's reading: assumption log 5). -/
def Obligations.QualifiersFollowTheSampleTable : Prop :=
  (∀ (s : State) (v : GateSamples), s.rst = false → ∃ g : Gates,
    exec (.gateSample v) s = .next { s with gates := g } ∧ g.q = s.gates.q ∧
    ∀ (level : Bool) (before after : Qualifier),
      ((level, before, after) = (v.wga, s.gates.wg.a, g.wg.a) ∨ (level, before, after) = (v.wgb, s.gates.wg.b, g.wg.b) ∨
        (level, before, after) = (v.sga, s.gates.sg.a, g.sg.a) ∨
        (level, before, after) = (v.sgb, s.gates.sg.b, g.sg.b) ∨
        (level, before, after) = (v.frz, s.gates.frz, g.frz)) →
      (level = before.level → after = ⟨before.level, 0⟩) ∧
      (level ≠ before.level → before.run < s.gates.q - 1 → after = ⟨before.level, before.run + 1⟩)) ∧
  ∀ (s : State) (x : Side), s.rst = false →
    (∀ level : Bool, let c : Instr := if level then .writeGateRise x else .writeGateFall x
      (EdgeDue s.gates.q (s.gates.wg.get x) level → Completes c s fun t =>
        t.gates = { s.gates with wg := s.gates.wg.set x ⟨level, 0⟩ }) ∧
      (¬EdgeDue s.gates.q (s.gates.wg.get x) level → exec c s = .next s)) ∧
    (∀ level : Bool, let c : Instr := if level then .servoGateRise x else .servoGateFall x
      (EdgeDue s.gates.q (s.gates.sg.get x) level → Completes c s fun t =>
        t.gates = { s.gates with sg := s.gates.sg.set x ⟨level, 0⟩ }) ∧
      (¬EdgeDue s.gates.q (s.gates.sg.get x) level → exec c s = .next s)) ∧
    (∀ level : Bool, let c : Instr := if level then .frzRise else .frzFall
      (EdgeDue s.gates.q s.gates.frz level → Completes c s fun t =>
        t.gates = { s.gates with frz := ⟨level, 0⟩ }) ∧
      (¬EdgeDue s.gates.q s.gates.frz level → exec c s = .next s))

/-- Outside CONFIGURED an edge changes its qualifier and reaches no block; a servo gate fall reaches no block in any
configuration state (R64, R68). -/
def Obligations.UndeliveredEdgesOnlyQualify : Prop :=
  ∀ (s : State) (x : Side), s.rst = false →
    (s.loader.config ≠ .configured →
      (EdgeDue s.gates.q (s.gates.wg.get x) true → exec (.writeGateRise x) s = .next
        { s with gates := { s.gates with wg := s.gates.wg.set x ⟨true, 0⟩ } }) ∧
      (EdgeDue s.gates.q (s.gates.wg.get x) false → exec (.writeGateFall x) s = .next
        { s with gates := { s.gates with wg := s.gates.wg.set x ⟨false, 0⟩ } }) ∧
      (EdgeDue s.gates.q (s.gates.sg.get x) true → exec (.servoGateRise x) s = .next
        { s with gates := { s.gates with sg := s.gates.sg.set x ⟨true, 0⟩ } }) ∧
      (EdgeDue s.gates.q s.gates.frz true → exec .frzRise s = .next
        { s with gates := { s.gates with frz := ⟨true, 0⟩ } }) ∧
      (EdgeDue s.gates.q s.gates.frz false → exec .frzFall s = .next
        { s with gates := { s.gates with frz := ⟨false, 0⟩ } })) ∧
    (EdgeDue s.gates.q (s.gates.sg.get x) false → exec (.servoGateFall x) s = .next
      { s with gates := { s.gates with sg := s.gates.sg.set x ⟨false, 0⟩ } })

/-! ## The heat channels -/

/-- A qualified write gate rise in READY or HOLDING begins a write interval: WRITING with the interval counted (at most
255), the dwell counter stopped, and a kick begun when Lk of the episode head is 1 or more; WGx_O rises, and the planned
level is K, K2 or S by the flags. In IDLE, FAULTED and FROZEN the rise has no effect on the channel (R66, R72, R76,
R82, R152). -/
def Obligations.WriteGateRiseBeginsInterval : Prop :=
  ∀ (s : State) (x : Side), s.rst = false → s.loader.config = .configured →
    EdgeDue s.gates.q (s.gates.wg.get x) true →
    let c := s.chan.get x
    let s1 := { s with gates := { s.gates with wg := s.gates.wg.set x ⟨true, 0⟩ } }
    let lk := (s.headRec x c.head).image.kickLength
    (c.state = .ready ∨ c.state = .holding → Completes (.writeGateRise x) s fun t =>
      t = { s1 with chan := s.chan.set x { c with
        state := .writing, dwell := none, kickFlag := decide (1 ≤ lk)
        kickTimer := if 1 ≤ lk then .waiting else .stopped
        record := { c.record with intervals := min (c.record.intervals + 1) 255 } } } ∧
      t.gateOut x = true ∧
      ∀ plan, c.live = some plan → (t.chan.get x).planned =
        if 1 ≤ lk then (if c.firstInterval then plan.kick else plan.rekick) else plan.sustain) ∧
    (c.state = .idle ∨ c.state = .faulted ∨ c.state = .frozen → exec (.writeGateRise x) s = .next s1)

/-- A qualified write gate rise in PENDING or PREHEAT is an early gate: EARLY_GATE is raised and the early flag set. In
PENDING, and in PREHEAT under STRICT, the channel stays and the gate is withheld; in PREHEAT under LENIENT the lead
timer stops and WRITING begins as from READY, with the lenient flag set (R66, R80, R81). -/
def Obligations.EarlyGateWithheldOrLenient : Prop :=
  ∀ (s : State) (x : Side), s.rst = false → s.loader.config = .configured →
    EdgeDue s.gates.q (s.gates.wg.get x) true →
    let c := s.chan.get x
    let s1 := { s with gates := { s.gates with wg := s.gates.wg.set x ⟨true, 0⟩ } }
    let lk := (s.headRec x c.head).image.kickLength
    (c.state = .pending ∨ (c.state = .preheat ∧ s.earlyPolicy = .strict) →
      Completes (.writeGateRise x) s fun t =>
        t = raiseEvent x .earlyGate false
          { s1 with chan := s.chan.set x { c with record := { c.record with early := true } } } ∧
        t.gateOut x = false) ∧
    (c.state = .preheat → s.earlyPolicy = .lenient → Completes (.writeGateRise x) s fun t =>
      t = raiseEvent x .earlyGate false
        { s1 with chan := s.chan.set x { c with
          state := .writing, leadTimer := .stopped, dwell := none, kickFlag := decide (1 ≤ lk)
          kickTimer := if 1 ≤ lk then .waiting else .stopped
          record := { c.record with
            early := true, lenient := true, intervals := min (c.record.intervals + 1) 255 } } } ∧
      t.gateOut x = true)

/-- A qualified write gate fall in WRITING ends the interval: to HOLDING with the kick stopped, the first-interval flag
clear and the dwell counter loaded, or, under a freeze wait, out of the episode to FROZEN with outcome FROZEN, the wait
clear and the frozen-episode flag set. In every other state it has no effect (R84, R151). -/
def Obligations.WriteGateFallEndsInterval : Prop :=
  ∀ (s : State) (x : Side), s.rst = false → s.loader.config = .configured →
    EdgeDue s.gates.q (s.gates.wg.get x) false →
    let c := s.chan.get x
    let s1 := { s with gates := { s.gates with wg := s.gates.wg.set x ⟨false, 0⟩ } }
    (c.state = .writing → s.freeze.wait.get x = false → exec (.writeGateFall x) s = .next
      { s1 with chan := s.chan.set x { c with
        state := .holding, kickTimer := .stopped, kickFlag := false, firstInterval := false
        dwell := some s.dwellLimit } }) ∧
    (c.state = .writing → s.freeze.wait.get x = true → exec (.writeGateFall x) s = .next
      { leaveEpisode x .frozen .frozen s1 with freeze := { s.freeze with
        wait := s.freeze.wait.set x false, frozenEpisode := s.freeze.frozenEpisode.set x true } }) ∧
    (c.state ≠ .writing → exec (.writeGateFall x) s = .next s1)

/-- A qualified servo gate rise in WRITING is an overlap: SERVO_OVERLAP is raised, its flag set, and the interval cut to
HOLDING, or, under a freeze wait, the episode ended to FROZEN; the staged plan is not swapped. In HOLDING a staged plan
becomes the live plan and the staged bank EMPTY. Elsewhere it has no effect (R85, R87, R151). -/
def Obligations.ServoGateRiseCutsOrSwaps : Prop :=
  ∀ (s : State) (x : Side), s.rst = false → s.loader.config = .configured →
    EdgeDue s.gates.q (s.gates.sg.get x) true →
    let c := s.chan.get x
    let s1 := { s with gates := { s.gates with sg := s.gates.sg.set x ⟨true, 0⟩ } }
    (c.state = .writing → s.freeze.wait.get x = false → Completes (.servoGateRise x) s fun t =>
      t = raiseEvent x .servoOverlap false { s1 with chan := s.chan.set x { c with
        state := .holding, kickTimer := .stopped, kickFlag := false, firstInterval := false
        dwell := some s.dwellLimit, record := { c.record with overlap := true } } } ∧
      t.gateOut x = false) ∧
    (c.state = .writing → s.freeze.wait.get x = true → exec (.servoGateRise x) s = .next
      { leaveEpisode x .frozen .frozen (raiseEvent x .servoOverlap false
          { s1 with chan := s.chan.set x { c with record := { c.record with overlap := true } } }) with
        freeze := { s.freeze with
          wait := s.freeze.wait.set x false, frozenEpisode := s.freeze.frozenEpisode.set x true } }) ∧
    (c.state = .holding →
      (∀ plan, c.staged = some plan → exec (.servoGateRise x) s = .next
        { s1 with chan := s.chan.set x { c with live := some plan, staged := none } }) ∧
      (c.staged = none → exec (.servoGateRise x) s = .next s1)) ∧
    (c.state ≠ .writing → c.state ≠ .holding → exec (.servoGateRise x) s = .next s1)

/-- A lead timer that has run out takes its channel from PREHEAT to READY with the dwell counter loaded anew (less the
frame start that falls at the same moment and has been delivered already, R148); a kick timer that has run out clears
the kick flag, so the planned level becomes S (R72, R79, R83, R146). A timer that is stopped, waits for emission or has
two or more slots left does not expire. A dwell counter that a frame start has brought to 0, or that holds 1 at the
frame start to come, ends the wait of PREHEAT, READY or HOLDING: DWELL_LIMIT is raised and the episode ends to FAULTED
with outcome DWELL, its record after the event's; in any other state, with 2 or more frames left, and with 1 left while no
frame start is to come now, there is no expiry (R147, R148). That an expiry is accepted at 0, or at 1 ahead of the slot
start or frame start that brings 0, is the model's form of the either order of R65, R124, R125 and R148: assumption log
4 and 21. -/
def Obligations.TimersAndDwellExpire : Prop :=
  ∀ (s : State) (x : Side), s.rst = false →
    let c := s.chan.get x
    (∀ n, c.state = .preheat → c.leadTimer = .counting n → n ≤ 1 →
      exec (.leadExpiry x) s = .next { s with chan := s.chan.set x { c with
        state := .ready, leadTimer := .stopped
        dwell := some (if c.dwell = some 0 then s.dwellLimit - 1 else s.dwellLimit) } }) ∧
    ((c.leadTimer = .stopped ∨ c.leadTimer = .waiting ∨ ∃ n, 2 ≤ n ∧ c.leadTimer = .counting n) →
      exec (.leadExpiry x) s = .next s) ∧
    (∀ n, c.state = .writing → c.kickTimer = .counting n → n ≤ 1 → Completes (.kickExpiry x) s fun t =>
      t = { s with chan := s.chan.set x { c with kickFlag := false, kickTimer := .stopped } } ∧
      ∀ plan, c.live = some plan → (t.chan.get x).planned = plan.sustain) ∧
    ((c.kickTimer = .stopped ∨ c.kickTimer = .waiting ∨ ∃ n, 2 ≤ n ∧ c.kickTimer = .counting n) →
      exec (.kickExpiry x) s = .next s) ∧
    ((c.state = .preheat ∨ c.state = .ready ∨ c.state = .holding) →
      (c.dwell = some 0 ∨ (c.dwell = some 1 ∧ s.FrameStartNow)) →
      exec (.dwellExpiry x) s = .next (leaveEpisode x .faulted .dwell
        (raiseEvent x .dwellLimit false { s with chan := s.chan.set x { c with dwell := none } }))) ∧
    ((¬(c.state = .preheat ∨ c.state = .ready ∨ c.state = .holding) ∨ c.dwell = none ∨
        (c.dwell = some 1 ∧ ¬s.FrameStartNow) ∨ ∃ n, 2 ≤ n ∧ c.dwell = some n) →
      exec (.dwellExpiry x) s = .next s)

/-- Channel x enters WRITING only at a qualified rise of its own write gate, so WGx_O rises at such a rise or not at
all (R66). -/
def Obligations.WritingEnteredOnlyAtOwnRise : Prop :=
  ∀ (c : Instr) (s t : State) (x : Side), exec c s = .next t →
    (c ≠ .writeGateRise x ∨ ¬EdgeDue s.gates.q (s.gates.wg.get x) true) →
    ((t.chan.get x).state = .writing → (s.chan.get x).state = .writing) ∧
    (t.gateOut x = true → s.gateOut x = true)

/-- Every step keeps both channels and the freeze flags well formed: the live bank holds a plan exactly in PREHEAT,
READY, WRITING and HOLDING, the staged bank only in WRITING and HOLDING, timers, flags, dwell counter and intervals
agree with the state, and a channel is FROZEN only under an active freeze (R71, R72, R86, R88, R92, R146, R150). -/
def Obligations.ChannelsStayWellFormed : Prop := KeptByStep ChannelsWf

/-- Every step keeps this: while a channel is in an episode state, its episode head equals the selected head in its
preamplifier's shadow, and the shadow's arm is SET (R27). -/
def Obligations.EpisodeHeadStaysShadowed : Prop := KeptByStep EpisodeShadowed

/-- Every step keeps the part quiet outside CONFIGURED, given the held-write queue's bounds: channels IDLE, places
EMPTY, windows, watch entries and base slot map empty, shadow UNKNOWN, interval counter stopped, no freeze in force (R22,
R25, R34, R45, R98, R99, R115, R129, R149, R166). -/
def Obligations.UnconfiguredPartStaysQuiet : Prop :=
  ∀ s t : State, HeldBounded s → QuietUnconfigured s → step s = .next t → QuietUnconfigured t

/-- A qualified FRZ rise is ignored in RUN. In SOFT and HARD it makes the freeze active and acts on channel A and then
on channel B: an episode outside WRITING, or any episode under HARD, ends with outcome FROZEN, its frozen-episode flag
set; a WRITING channel under SOFT is left writing with its wait set; IDLE and FAULTED go to FROZEN without a record. Its
reports are the EPISODE records of the episodes it ends, A's before B's. A qualified FRZ fall under an active freeze
clears every wait and releases FROZEN channels, A and then B, by the shadow's arm, to FAULTED when it is SET and to IDLE
otherwise, and each frozen episode raises FROZEN_EPISODE with its EVENT record; under no active freeze it has no effect
(R150, R151, R153). -/
def Obligations.FreezeRisesAndFalls : Prop :=
  ∀ s : State, s.rst = false → s.loader.config = .configured →
    (EdgeDue s.gates.q s.gates.frz true →
      let s1 := { s with gates := { s.gates with frz := ⟨true, 0⟩ } }
      let act (x : Side) (u : State) : State :=
        if (u.chan.get x).state = .writing ∧ s.freeze.mode = .soft then
          { u with freeze := { u.freeze with wait := u.freeze.wait.set x true } }
        else if u.inEpisode x then
          { leaveEpisode x .frozen .frozen u with freeze := { u.freeze with
            wait := u.freeze.wait.set x false, frozenEpisode := u.freeze.frozenEpisode.set x true } }
        else { u with chan := u.chan.set x { u.chan.get x with state := .frozen } }
      (s.freeze.mode = .run → exec .frzRise s = .next s1) ∧
      (s.freeze.mode ≠ .run →
        exec .frzRise s = .next (act .b (act .a { s1 with freeze := { s.freeze with active := true } }))) ∧
      (s.freeze.mode ≠ .run → Completes .frzRise s fun t =>
        let ends (x : Side) : Bool :=
          s.inEpisode x && ((s.chan.get x).state ≠ .writing || s.freeze.mode = .hard)
        t.freeze.active = true ∧ t.freeze.mode = s.freeze.mode ∧ t.shadow = s.shadow ∧
        (s.reports.records.length ≤ 14 → (∀ e ∈ s.held, ends e.side = false) →
          t.events = s.events ∧
          t.reports.records = s.reports.records ++
            (if ends .a then [Report.episode .a s.chan.a.episode s.chan.a.head .frozen s.chan.a.record] else []) ++
            (if ends .b then [Report.episode .b s.chan.b.episode s.chan.b.head .frozen s.chan.b.record] else [])) ∧
        ∀ x, let c := s.chan.get x
          (c.state = .writing ∧ s.freeze.mode = .soft →
            t.chan.get x = c ∧ t.freeze.wait.get x = true ∧ t.gateOut x = s.gateOut x) ∧
          (ends x = true →
            t.chan.get x = c.left .frozen ∧ t.freeze.wait.get x = false ∧ t.freeze.frozenEpisode.get x = true ∧
            t.gateOut x = false ∧ t.framer.urgent.get x = true ∧ t.engine.place.get x = none ∧
            (∀ e ∈ t.held, e.side ≠ x)) ∧
          (c.state = .idle ∨ c.state = .faulted →
            t.chan.get x = { c with state := .frozen } ∧ t.framer.urgent.get x = s.framer.urgent.get x) ∧
          (c.state = .frozen → t.chan.get x = c))) ∧
    (EdgeDue s.gates.q s.gates.frz false →
      let s1 := { s with gates := { s.gates with frz := ⟨false, 0⟩ } }
      let release (x : Side) (u : State) : State :=
        if (u.chan.get x).state = .frozen then
          let v := { u with chan := u.chan.set x { u.chan.get x with
            state := if (s.shadow.get x).arm = .set then .faulted else .idle } }
          if u.freeze.frozenEpisode.get x then
            raiseEvent x .frozenEpisode false
              { v with freeze := { u.freeze with frozenEpisode := u.freeze.frozenEpisode.set x false } }
          else v
        else { u with freeze := { u.freeze with wait := u.freeze.wait.set x false } }
      (s.freeze.active = false → exec .frzFall s = .next s1) ∧
      (s.freeze.active = true →
        exec .frzFall s = .next (release .b (release .a { s1 with freeze := { s.freeze with active := false } }))) ∧
      (s.freeze.active = true → Completes .frzFall s fun t =>
        let raised (x : Side) : List Report :=
          if (s.chan.get x).state = .frozen ∧ s.freeze.frozenEpisode.get x = true then
            [Report.event x .frozenEpisode false ((s.events.kinds.get x).contains .frozenEpisode)
              (isMasked s.events.mask .frozenEpisode) (s.chan.get x).episode]
          else []
        t.freeze.active = false ∧ t.freeze.mode = s.freeze.mode ∧ t.shadow = s.shadow ∧ t.held = s.held ∧
        t.heads = s.heads ∧ t.framer = s.framer ∧ t.engine = s.engine ∧ t.link = s.link ∧
        (s.reports.records.length ≤ 14 → t.reports.records = s.reports.records ++ raised .a ++ raised .b) ∧
        ∀ x, let c := s.chan.get x
          (c.state = .frozen →
            t.chan.get x = { c with state := if (s.shadow.get x).arm = .set then .faulted else .idle } ∧
            t.freeze.frozenEpisode.get x = false ∧
            (s.freeze.frozenEpisode.get x = true → .frozenEpisode ∈ t.events.kinds.get x)) ∧
          (c.state ≠ .frozen → t.chan.get x = c ∧ t.freeze.wait.get x = false)))

/-! ## The plan engine -/

/-- The arbiter starts a computation when the unit is FREE: the only waiting request, or of two the ARM before the
RECOMPUTE, or of two of one class the channel that the last-served marker does not name. The request leaves its place,
the marker names its channel, and the tag and the ten inputs are read from the channel and its episode head's record at
that moment; with no request, or with the unit BUSY, nothing starts (R103, R104). -/
def Obligations.ArbiterStartsByTheTable : Prop :=
  ∀ s : State, s.rst = false →
    (s.engine.unit ≠ none → exec .arbiterStart s = .next s) ∧
    (s.engine.place.a = none → s.engine.place.b = none → exec .arbiterStart s = .next s) ∧
    ∀ (x : Side) (c : ReqClass), s.engine.unit = none → s.engine.place.get x = some c →
      (s.engine.place.get x.other = none ∨
        (c = .arm ∧ s.engine.place.get x.other = some .recompute) ∨
        (s.engine.place.get x.other = some c ∧ s.engine.lastServed = x.other)) →
      ∀ t o, (s.headRec x (s.chan.get x).head).threshold = some t →
        (s.headRec x (s.chan.get x).head).operating = some o →
        let i := (s.headRec x (s.chan.get x).head).image
        exec .arbiterStart s = .next { s with engine :=
          { unit := some ⟨x, c, (s.chan.get x).episode, ⟨t, o, i.ceiling, i.kickDelta, i.preheatFraction,
              i.thermalGain, i.leadBase, i.leadFloor, i.leadCredit, (s.headRec x (s.chan.get x).head).heat⟩⟩
            place := s.engine.place.set x none
            lastServed := x } }

/-- A computation that ends delivers the plan of its inputs and leaves the unit FREE. An ARM result whose tag is the
channel's number is accepted in PENDING: the live plan, PREHEAT, the lead waiting for emission, the dwell counter
loaded. A RECOMPUTE result with that tag is staged in WRITING and HOLDING. Every other result is discarded and changes
nothing in the channel (R77, R78, R86, R105, R107). -/
def Obligations.ComputationEndDelivers : Prop :=
  ∀ (s : State) (r : Computation), s.rst = false → s.engine.unit = some r →
    let c := s.chan.get r.side
    let s1 := { s with engine := { s.engine with unit := none } }
    let plan := computePlan r.inputs
    (r.cls = .arm → r.tag = c.episode → c.state = .pending → exec .computationEnd s = .next
      { s1 with chan := s.chan.set r.side { c with
        state := .preheat, live := some plan, leadTimer := .waiting, dwell := some s.dwellLimit } }) ∧
    (r.cls = .recompute → r.tag = c.episode → (c.state = .writing ∨ c.state = .holding) →
      exec .computationEnd s = .next
        { s1 with chan := s.chan.set r.side { c with staged := some plan } }) ∧
    ((r.tag ≠ c.episode ∨ (r.cls = .arm ∧ c.state ≠ .pending) ∨
        (r.cls = .recompute ∧ c.state ≠ .writing ∧ c.state ≠ .holding)) →
      exec .computationEnd s = .next s1)

/-- The arithmetic of a plan and its bounds, for all inputs in the ranges of R107. With span O − T (0 when O is not
above T) and compensation floor(H·k / 65536), S is T + span − floor(span·c / 1024); K and K2 are S plus Kd and
floor(Kd / 2), at most C, or S for a span of 0; P is T + floor((S − T)·pf / 16); and L is the larger of Lf and
Lb − floor(H·lc / 65536), taken as 0 below 0 (R108, R109, R110, R111, R112). Every plan satisfies
T ≤ P ≤ S ≤ K2 ≤ K ≤ C and Lf ≤ L ≤ Lb (R113). -/
def Obligations.PlanArithmeticStaysWithinBounds : Prop :=
  ∀ i : PlanInputs, i.t ≤ i.c → i.o ≤ i.c → i.c ≤ 1023 → i.kd ≤ 255 → i.pf ≤ 16 → i.k ≤ 255 → i.lc ≤ 255 →
    1 ≤ i.lb → i.lb ≤ 255 → i.lf ≤ i.lb → i.h ≤ 65535 →
    let p := computePlan i
    let span : Int := if i.t < i.o then (i.o : Int) - i.t else 0
    let c : Int := (i.h : Int) * i.k / 65536
    let s : Int := i.t + span - span * c / 1024
    let credit : Int := (i.h : Int) * i.lc / 65536
    (p.sustain : Int) = s ∧
    (p.kick : Int) = (if 0 < span then min (s + i.kd) i.c else s) ∧
    (p.rekick : Int) = (if 0 < span then min (s + i.kd / 2) i.c else s) ∧
    (p.preheat : Int) = i.t + (s - i.t) * i.pf / 16 ∧
    (p.lead : Int) = max (i.lf : Int) (if (i.lb : Int) < credit then 0 else i.lb - credit) ∧
    i.t ≤ p.preheat ∧ p.preheat ≤ p.sustain ∧ p.sustain ≤ p.rekick ∧ p.rekick ≤ p.kick ∧ p.kick ≤ i.c ∧
    i.lf ≤ p.lead ∧ p.lead ≤ i.lb

/-- A plan follows the heat in one direction: when H rises and everything else stays equal, the compensation and the
credit cannot fall, and none of S, K, K2, P and L can rise (R114). An H of at most 255 gives the plan of a cold head
(R121). -/
def Obligations.PlanFollowsHeatOneWay : Prop :=
  (∀ (i : PlanInputs) (h : Nat), i.h ≤ h →
    let p := computePlan i
    let q := computePlan { i with h := h }
    i.h * i.k / 65536 ≤ h * i.k / 65536 ∧ i.h * i.lc / 65536 ≤ h * i.lc / 65536 ∧
    q.sustain ≤ p.sustain ∧ q.kick ≤ p.kick ∧ q.rekick ≤ p.rekick ∧ q.preheat ≤ p.preheat ∧ q.lead ≤ p.lead) ∧
  ∀ i : PlanInputs, i.h ≤ 255 → i.k ≤ 255 → i.lc ≤ 255 → computePlan i = computePlan { i with h := 0 }

/-! ## The thermal model -/

/-- A thermal expiry reloads the interval counter and updates all 24 accumulators from the state it finds: H becomes
H − floor(H·d / 256) + E, at most 65535, where E is floor((Le − T)·g / 16) for the episode head of a channel in an
episode state whose emitted head it is and whose emitted level Le is above T, and 0 otherwise. Then a RECOMPUTE is
posted for each channel in WRITING or HOLDING, merging with one that waits. Of the thermal model only the counter changes,
and the model's own mark of an expiry taken ahead of its frame start; nothing else of the part changes (R100, R116, R117,
R118, R119; that the expiry is accepted at 0, or at 1 ahead of its frame start, is the model's form of the either order
of R120: assumption log 4; that R117's four conditions decide in PENDING too, where a channel armed again with the same
head before its urgent OFF is sent meets them though R117's further text and R119 say 0, is the model's choice:
assumption log 24). -/
def Obligations.ThermalExpiryUpdatesEveryHead : Prop :=
  ∀ s : State, s.rst = false → s.loader.config = .configured →
    (s.thermal.counter = some 0 ∨
      (s.thermal.counter = some 1 ∧ s.FrameStartNow ∧ s.thermal.takenEarly = false)) →
    (∀ x, s.engine.place.get x ≠ some .arm ∨ s.inEpisode x = false ∨ (s.chan.get x).state = .pending) →
    Completes .thermalExpiry s fun t =>
      (∀ (x : Side) (h : Fin 12), ∃ e : Nat,
        t.headRec x h = { s.headRec x h with
          heat := min ((s.headRec x h).heat - (s.headRec x h).heat * s.thermal.decay / 256 + e) 65535 } ∧
        (∀ v, (s.headRec x h).threshold = some v → s.inEpisode x = true → (s.chan.get x).head = h →
          s.framer.head.get x = h → v < s.framer.level.get x →
          e = (s.framer.level.get x - v) * s.thermal.gain / 16) ∧
        ((s.inEpisode x = false ∨ (s.chan.get x).head ≠ h ∨ s.framer.head.get x ≠ h ∨
          (∀ v, (s.headRec x h).threshold = some v → s.framer.level.get x ≤ v)) → e = 0)) ∧
      (∀ x, t.engine.place.get x =
        if (s.chan.get x).state = .writing ∨ (s.chan.get x).state = .holding then some .recompute
        else s.engine.place.get x) ∧
      t.thermal = { s.thermal with
        counter := some s.thermal.interval, takenEarly := decide (s.thermal.counter ≠ some 0) } ∧
      { t with heads := s.heads, engine := { t.engine with place := s.engine.place }, thermal := s.thermal } = s

/-! ## The laser bus and the supply budget -/

/-- A slot start and its parts. The word of a slot start ends the running slot: each preamplifier that its destination
names latches its word, a LEVEL word for the named head alone and ALL_OFF for every head, the timers count, and the slot
number goes on around the frame. The event of the moment is the frame start at slot 0, where an episode's duration and
the dwell counter of a waiting channel count, and so does the interval counter in CONFIGURED unless its expiry has been
taken ahead; at slot 1 it is the fix of the effective slot map by lending. Each is taken once: with the word, ahead of
it, or, a frame start, after it. The base map, the head table, the link, the shadow and the states, banks and numbers of
the channels do not change (R95, R116, R120, R124, R125, R126, R128, R130, R131, R147; the counting of slots at the slot
start, the order of the fix, the latching and the taking in two parts are the model's reading: assumption log 4, 14, 19
and 21; that the map is fixed at this slot 1 also after a load that succeeded during the running slot 0, on which the two
sentences of R131 differ, is the model's choice: assumption log 22). -/
def Obligations.SlotStartEndsTheRunningSlot : Prop :=
  ∀ (s : State) (part : SlotPart), s.rst = false → Completes (.slotStart part) s fun t =>
    let owed : Bool := s.framer.split = .frameOwed
    let ahead : Bool := s.framer.split = .eventTaken
    let frames : Nat := (if owed then 1 else 0) +
      (if s.slotToCome = 0 ∧ ahead = false ∧ (part = .whole ∨ (part = .event ∧ owed = false)) then 1 else 0)
    let fixed : Prop := s.slotToCome = 1 ∧ ahead = false ∧ (part = .event → owed = false)
    (part ≠ .event →
      t.framer.slot = some s.slotToCome ∧ (t.lbfs = true ↔ s.slotToCome = 0) ∧
      (∀ (x : Side) (h : Fin 12), (t.drives.get x)[h.val] =
        if s.framer.lbds.getLsbD (match x with | .a => 0 | .b => 1) = false then (s.drives.get x)[h.val]
        else if bitField s.framer.lbda 14 2 = 2 then 0
        else if bitField s.framer.lbda 14 2 = 1 ∧ bitField s.framer.lbda 10 4 = h.val then
          bitField s.framer.lbda 0 10
        else (s.drives.get x)[h.val]) ∧
      ∀ x, (∀ n, (s.chan.get x).leadTimer = .counting n → (t.chan.get x).leadTimer = .counting (n - 1)) ∧
        (∀ n, (s.chan.get x).kickTimer = .counting n → (t.chan.get x).kickTimer = .counting (n - 1))) ∧
    (part = .event →
      t.framer = { s.framer with effectiveMap := t.framer.effectiveMap, split := t.framer.split } ∧
      t.drives = s.drives ∧ t.reports = s.reports ∧ t.events = s.events ∧
      ∀ x, (t.chan.get x).leadTimer = (s.chan.get x).leadTimer ∧ (t.chan.get x).kickTimer = (s.chan.get x).kickTimer) ∧
    (∀ x, let c := s.chan.get x
      let d := t.chan.get x
      d.state = c.state ∧ d.head = c.head ∧ d.episode = c.episode ∧ d.live = c.live ∧ d.staged = c.staged ∧
      d.firstInterval = c.firstInterval ∧ d.kickFlag = c.kickFlag ∧ d.record.intervals = c.record.intervals ∧
      d.record.duration = (if frames ≠ 0 ∧ s.inEpisode x = true then min (c.record.duration + frames) 65535
        else c.record.duration) ∧
      d.dwell = (if c.state = .preheat ∨ c.state = .ready ∨ c.state = .holding then c.dwell.map (· - frames)
        else c.dwell)) ∧
    (s.loader.config ≠ .configured → t.thermal = s.thermal) ∧
    (s.loader.config = .configured → t.thermal = { s.thermal with
      counter := s.thermal.counter.map (· - (frames - if s.thermal.takenEarly then 1 else 0))
      takenEarly := s.thermal.takenEarly && decide (frames = 0) }) ∧
    t.framer.split = (match part with
      | .whole => .whole
      | .word => if s.slotToCome = 0 ∧ ahead = false then .frameOwed else .whole
      | .event => if owed then .whole else if s.slotToCome = 0 ∨ s.slotToCome = 1 then .eventTaken else s.framer.split) ∧
    t.framer.baseMap = s.framer.baseMap ∧
    (¬fixed → t.framer.effectiveMap = s.framer.effectiveMap) ∧
    (fixed → ∀ k : Fin 8, t.framer.effectiveMap[k.val] =
      match s.framer.baseMap[k.val] with
      | .chan x =>
        if s.inEpisode x = false ∧ s.framer.level.get x = 0 ∧ s.framer.urgent.get x = false ∧
          s.inEpisode x.other = true then .chan x.other
        else .chan x
      | .report => .report
      | .none => .none) ∧
    t.heads = s.heads ∧ t.link = s.link ∧ t.shadow = s.shadow ∧ t.held = s.held ∧ t.windows = s.windows ∧
    t.watch = s.watch ∧ t.gates = s.gates ∧ t.engine = s.engine ∧ t.loader = s.loader ∧ t.freeze = s.freeze ∧
    t.budget = s.budget

/-- What a slot carries before its owner is asked, and what it carries when no LEVEL word is sent. Outside CONFIGURED,
and with both urgent OFFs pending, ALL_OFF to {A, B}: both emitted levels 0, both flags clear, the emitted heads kept.
With one pending, LEVEL 0 for that channel's emitted head to its preamplifier, and its flag clear. Otherwise a REPORT
slot carries the next word of the head record to the drive controller, and the record leaves with its last word; an
empty queue, a NONE slot and a channel outside the episode states give IDLE to no listener (R127, R130, R131, R132, R133,
R134, R135, R137, R138; that slot 1 goes to its owner by the map fixed at that moment, the fix taken before the word,
and at every slot 1, also after a load during the running slot 0, is the model's reading: assumption log 14, 21 and
22). -/
def Obligations.SlotWordsOtherThanLevel : Prop :=
  ∀ (s : State) (part : SlotPart), s.rst = false → part ≠ .event →
    ((s.loader.config ≠ .configured ∨ (s.framer.urgent.a = true ∧ s.framer.urgent.b = true)) →
      Completes (.slotStart part) s fun t =>
        t.framer.lbda = 0x8000#16 ∧ t.framer.lbds = 3#3 ∧ t.framer.head = s.framer.head ∧
        (∀ x, t.framer.level.get x = 0 ∧ t.framer.urgent.get x = false) ∧ t.reports = s.reports ∧
        t.events = s.events) ∧
    (s.loader.config = .configured →
      (∀ x, s.framer.urgent.get x = true → s.framer.urgent.get x.other = false → Completes (.slotStart part) s fun t =>
        t.framer.lbda.toNat = 2 ^ 14 + (s.framer.head.get x).val * 2 ^ 10 ∧
        t.framer.lbds = (match x with | .a => 1#3 | .b => 2#3) ∧ t.framer.head = s.framer.head ∧
        t.framer.level = s.framer.level.set x 0 ∧ (∀ y, t.framer.urgent.get y = false) ∧
        t.reports = s.reports ∧ t.events = s.events) ∧
      (s.framer.urgent.a = false → s.framer.urgent.b = false →
        (s.ownerToCome = .report → ∀ r rest, s.reports.records = r :: rest → Completes (.slotStart part) s fun t =>
          t.framer.lbda = r.words.getD s.reports.sent 0 ∧ t.framer.lbds = 4#3 ∧
          (s.reports.sent + 1 < r.words.length → t.reports = ⟨r :: rest, s.reports.sent + 1⟩) ∧
          (r.words.length ≤ s.reports.sent + 1 → t.reports = ⟨rest, 0⟩) ∧
          t.framer.level = s.framer.level ∧ t.framer.head = s.framer.head ∧ t.events = s.events) ∧
        ((s.ownerToCome = .none ∨ (s.ownerToCome = .report ∧ s.reports.records = []) ∨
            ∃ x, s.ownerToCome = .chan x ∧ s.inEpisode x = false) → Completes (.slotStart part) s fun t =>
          t.framer.lbda = 0 ∧ t.framer.lbds = 0 ∧ t.framer.level = s.framer.level ∧
          t.framer.head = s.framer.head ∧ t.reports = s.reports ∧ t.events = s.events)))

/-- A slot of a channel in an episode state carries a LEVEL word to its preamplifier for its episode head, at the
smaller of the planned level and what the other channel's emitted level leaves of the budget. The emitted level and
head become the word's; the word loads a waiting lead timer with L and a waiting kick timer with Lk, and enters the
peak. A reduced word sets the budget-reduced flag, and the first of the episode raises BUDGET_SHORT. The other
channel's emitted level, head and record are left alone (R79, R83, R95, R130, R131, R134, R137, R141, R142, R143; that
slot 1 goes to its owner by the map fixed at that moment, also after a load during the running slot 0, is the model's
reading, assumption log 14, 21 and 22, and so is the reading of Lk and L at the emission, assumption log 15). -/
def Obligations.LevelWordWithinBudget : Prop :=
  ∀ (s : State) (part : SlotPart) (x : Side), s.rst = false → part ≠ .event → s.loader.config = .configured →
    s.framer.urgent.a = false → s.framer.urgent.b = false → s.ownerToCome = .chan x → s.inEpisode x = true →
    let c := s.chan.get x
    let level := min c.planned (s.budget - s.framer.level.get x.other)
    Completes (.slotStart part) s fun t =>
      let d := t.chan.get x
      t.framer.lbda = BitVec.ofNat 16 (2 ^ 14 + c.head.val * 2 ^ 10 + level % 2 ^ 10) ∧
      t.framer.lbds = (match x with | .a => 1#3 | .b => 2#3) ∧
      t.framer.level = s.framer.level.set x level ∧ t.framer.head = s.framer.head.set x c.head ∧
      t.framer.urgent = s.framer.urgent ∧
      (∀ plan, c.live = some plan → c.leadTimer = .waiting → d.leadTimer = .counting plan.lead) ∧
      (c.leadTimer = .stopped → d.leadTimer = .stopped) ∧
      (c.kickTimer = .waiting → d.kickTimer = .counting (s.headRec x c.head).image.kickLength) ∧
      (c.kickTimer = .stopped → d.kickTimer = .stopped) ∧
      d.record.peak = max c.record.peak level ∧
      d.record.reduced = (c.record.reduced || decide (level < c.planned)) ∧
      d.record.early = c.record.early ∧ d.record.lenient = c.record.lenient ∧
      d.record.overlap = c.record.overlap ∧
      (t.chan.get x.other).record.reduced = (s.chan.get x.other).record.reduced ∧
      (t.chan.get x.other).record.peak = (s.chan.get x.other).record.peak ∧
      (if level < c.planned ∧ c.record.reduced = false then
        (t.events, t.reports) = ((raiseEvent x .budgetShort false s).events, (raiseEvent x .budgetShort false s).reports)
      else (t.events, t.reports) = (s.events, s.reports))

/-- Every step keeps the emission safe: the sum of the two emitted levels never exceeds the supply budget (R141), and a
level above 0 is the episode head's or has its urgent OFF pending, so that a LEVEL word names another head only when
the emitted level is 0 (R128). A successful load sets a new budget while both levels are 0, as every slot of LOADING
leaves them (R138, R140). -/
def Obligations.EmissionStaysSafe : Prop :=
  ∀ (c : Instr) (s t : State), EmissionSafe s →
    (c = .loadNRise → s.framer.level.a = 0 ∧ s.framer.level.b = 0) → exec c s = .next t → EmissionSafe t

/-! ## Events, reports and the fault line -/

/-- A raise makes its kind pending and queues one EVENT record with the repeat flag as the set stood before, the masked
flag as the mask stands and the channel's episode number. A record that arrives at a queue of 16 is dropped, and unless
it is a REPORT_OVERFLOW record, that kind becomes pending for A and for B; nothing else changes (R155, R156, R163,
R164). -/
def Obligations.RaisesAndTheFullQueue : Prop :=
  (∀ (s : State) (p : Side) (k : EventKind) (injected : Bool),
    let s1 := { s with events := { s.events with kinds := s.events.kinds.set p (addKind k (s.events.kinds.get p)) } }
    raiseEvent p k injected s = queueReport
      (.event p k injected (decide (k ∈ s.events.kinds.get p))
        (decide (k ≠ .imageBad) && s.events.mask.getLsbD k.code) (s.chan.get p).episode) s1 ∧
    ∀ j, j ∈ addKind k (s.events.kinds.get p) ↔ j = k ∨ j ∈ s.events.kinds.get p) ∧
  (∀ (s : State) (r : Report), s.reports.records.length < 16 →
    queueReport r s = { s with reports := { s.reports with records := s.reports.records ++ [r] } }) ∧
  (∀ (s : State) (p : Side) (injected again masked : Bool) (n : BitVec 8), 16 ≤ s.reports.records.length →
    queueReport (.event p .reportOverflow injected again masked n) s = s) ∧
  ∀ (s : State) (r : Report), 16 ≤ s.reports.records.length →
    (∀ p injected again masked n, r ≠ .event p .reportOverflow injected again masked n) →
    queueReport r s = { s with events := { s.events with kinds :=
      ⟨addKind .reportOverflow s.events.kinds.a, addKind .reportOverflow s.events.kinds.b⟩ } }

/-- Every step keeps the report queue's bound of 16 records, and the queue is first in, first out: a step other than
RST_N drops at most the head record, and only a slot start drops it, and appends (R163, R165). -/
def Obligations.ReportQueueStaysBoundedAndInOrder : Prop :=
  KeptByStep ReportsBounded ∧
  ∀ (c : Instr) (s t : State), exec c s = .next t → c ≠ .rstNAssert →
    ∃ (n : Nat) (more : List Report), t.reports.records = s.reports.records.drop n ++ more ∧ n ≤ 1 ∧
      ((∀ part, c ≠ .slotStart part) → n = 0 ∧ t.reports.sent = s.reports.sent)

/-- The merged code of a preamplifier is the lowest code among its pending unmasked kinds, IMAGE_BAD counting as
unmasked, or 0 when there is none; and FLT_N is low exactly while some preamplifier's merged code is not 0 (R157, R158,
R159). -/
def Obligations.MergedCodeAndFaultLine : Prop :=
  (∀ (mask : BitVec 16) (kinds : List EventKind),
    let shown (k : EventKind) : Prop := k ∈ kinds ∧ (k = .imageBad ∨ mask.getLsbD k.code = false)
    ((∀ k, ¬shown k) → mergedCode mask kinds = 0) ∧
    ∀ k, shown k → (∀ j, shown j → k.code ≤ j.code) → mergedCode mask kinds = k.code) ∧
  ∀ s : State, s.faultLow = true ↔ ∃ p, mergedCode s.events.mask (s.events.kinds.get p) ≠ 0

/-! ## The load port -/

/-- The load port: the first sample that reads high arms it; a fall of LOAD_N on an armed port begins a load with an
empty buffer; a complete word is stored while fewer than 205 are, and discarded after that. A fall from CONFIGURED ends
every episode with outcome RELOAD, channel A's before channel B's, takes FAULTED and FROZEN channels to IDLE, clears the
freeze, disables the windows and watch entries, makes the shadow UNKNOWN, empties the base slot map and stops the
interval counter; a fall on a port that is not armed is ignored. The records, events, reports, held writes and emission
list are what the leaving of A's episode and then of B's makes of them: codes change only by the release captures, and
heat, image parts and the parameters of the image stay (R45, R92, R97, R149, R168, R169; a word is loaded whole:
assumption log 3). -/
def Obligations.LoadBeginsAndTakesWords : Prop :=
  (∀ s : State, s.rst = false → exec .loadPortArmed s = .next { s with loader := { s.loader with armed := true } }) ∧
  (∀ (s : State) (w : Word), s.rst = false → s.loader.config = .loading →
    exec (.loadWord w) s = .next { s with loader := { s.loader with
      buffer := if s.loader.buffer.length < 205 then s.loader.buffer ++ [w] else s.loader.buffer
      partialWord := [] } }) ∧
  (∀ s : State, s.rst = false → s.loader.armed = false → exec .loadNFall s = .next s) ∧
  (∀ s : State, s.rst = false → s.loader.armed = true → s.loader.config = .unconfigured →
    exec .loadNFall s = .next { s with loader := ⟨.loading, true, [], []⟩ }) ∧
  ∀ s : State, s.rst = false → s.loader.armed = true → s.loader.config = .configured →
    Completes .loadNFall s fun t =>
      t.loader = ⟨.loading, true, [], []⟩ ∧
      (∀ x, t.chan.get x =
        if s.inEpisode x then (s.chan.get x).left .idle else { s.chan.get x with state := .idle }) ∧
      (let sA := if s.inEpisode .a then leaveEpisode .a .idle .reload s else s
        let sB := if s.inEpisode .b then leaveEpisode .b .idle .reload sA else sA
        t.heads = sB.heads ∧ t.events = sB.events ∧ t.reports = sB.reports ∧ t.held = sB.held ∧ t.link = sB.link) ∧
      (s.reports.records.length ≤ 14 → (∀ e ∈ s.held, s.inEpisode e.side = false) →
        t.reports.records = s.reports.records ++
          (if s.inEpisode .a then
            [Report.episode .a (s.chan.a).episode (s.chan.a).head .reload (s.chan.a).record] else []) ++
          (if s.inEpisode .b then
            [Report.episode .b (s.chan.b).episode (s.chan.b).head .reload (s.chan.b).record] else [])) ∧
      (∀ x, s.inEpisode x = true → (∀ e ∈ t.held, e.side ≠ x) ∧ t.framer.urgent.get x = true ∧
        t.engine.place.get x = none) ∧
      t.freeze = ⟨s.freeze.mode, false, ⟨false, false⟩, ⟨false, false⟩⟩ ∧
      (∀ i : Fin 16, (t.windows[i.val]).enabled = false) ∧ (∀ i : Fin 4, (t.watch[i.val]).enabled = false) ∧
      (∀ x, t.shadow.get x = ⟨none, .unknown⟩) ∧ (∀ k : Fin 8, t.framer.baseMap[k.val] = .none) ∧
      t.thermal = { s.thermal with counter := none, takenEarly := false } ∧
      t.gates = s.gates ∧ t.budget = s.budget ∧ t.dwellLimit = s.dwellLimit ∧ t.earlyPolicy = s.earlyPolicy ∧
      t.events.mask = s.events.mask ∧ t.engine.unit = s.engine.unit ∧
      t.engine.lastServed = s.engine.lastServed ∧
      ∀ x h, (t.headRec x h).image = (s.headRec x h).image ∧ (t.headRec x h).heat = (s.headRec x h).heat ∧
        ((∀ e ∈ s.held, ¬(e.side = x ∧ e.head = h ∧ s.inEpisode x = true)) → t.headRec x h = s.headRec x h)

/-- A rise of LOAD_N in LOADING validates the image: 205 words stored, format word 1, length word 205, sum 0 modulo
65536. An image that fails any test leaves the part UNCONFIGURED with the buffer discarded and IMAGE_BAD raised for A and
then for B. One that passes configures every block in one act: image parts with the clamps of R50, present codes lowered
to the new ceiling without an event, heat untouched, parameters clamped and set, windows, slot maps and watch entries
placed, the pending sets emptied under the new mask, and the interval counter loaded; with the qualified FRZ level LOW
the channels, the link and the report queue stay as they are. With it HIGH one FRZ rise is delivered after all that.
(R58, R68, R115, R131, R162, R170, R171, R172, R175). -/
def Obligations.LoadEndsByValidation : Prop :=
  ∀ s : State, s.rst = false → s.loader.config = .loading →
    let m (n : Nat) : Nat := (s.loader.buffer.getD n 0).toNat
    let good : Prop := s.loader.buffer.length = 205 ∧ m 0 = 1 ∧ m 1 = 205 ∧
      (s.loader.buffer.map BitVec.toNat).sum % 65536 = 0
    (¬good → exec .loadNRise s = .next (raiseEvent .b .imageBad false (raiseEvent .a .imageBad false
      { s with loader := ⟨.unconfigured, s.loader.armed, [], []⟩ }))) ∧
    (good → s.gates.frz.level = true → exec .loadNRise s = .next (freezeRise (applyImage s.loader.buffer s))) ∧
    (good → s.gates.frz.level = false → Completes .loadNRise s fun t =>
      t = applyImage s.loader.buffer s ∧
      t.loader = ⟨.configured, s.loader.armed, [], []⟩ ∧
      (∀ (x : Side) (h : Fin 12), let q := 76 + 60 * (match x with | .a => 0 | .b => 1) + 5 * h.val
        let i := (t.headRec x h).image
        let lb := max (m (q + 2) % 256) 1
        i.enabled = decide (m q / 2 ^ 15 = 1) ∧ i.ceiling = m q % 1024 ∧ i.kickDelta = m (q + 1) / 256 ∧
        i.kickLength = m (q + 1) % 64 ∧ i.preheatFraction = min (m (q + 2) / 256 % 32) 16 ∧
        i.leadBase = lb ∧ i.leadFloor = min (m (q + 3) / 256) lb ∧ i.thermalGain = m (q + 3) % 256 ∧
        i.leadCredit = m (q + 4) % 256 ∧
        (t.headRec x h).threshold = (s.headRec x h).threshold.map (min · i.ceiling) ∧
        (t.headRec x h).operating = (s.headRec x h).operating.map (min · i.ceiling) ∧
        (t.headRec x h).heat = (s.headRec x h).heat) ∧
      t.gates = { s.gates with q := min (max (m 2 % 32) 2) 16 } ∧
      t.budget = m 3 % 2048 ∧
      t.thermal = ⟨max (m 4 % 256) 1, m 5 % 256, m 6 % 256, some (max (m 4 % 256) 1), false⟩ ∧
      t.dwellLimit = max (m 7 % 4096) 1 ∧
      t.earlyPolicy = (if m 8 % 2 = 0 then .strict else .lenient) ∧
      t.freeze.mode = (if m 9 % 4 = 0 then .run else if m 9 % 4 = 1 then .soft else .hard) ∧
      t.freeze.active = s.freeze.active ∧ t.freeze.wait = s.freeze.wait ∧
      t.freeze.frozenEpisode = s.freeze.frozenEpisode ∧
      (∀ k : Fin 8, t.framer.baseMap[k.val] =
        (if m 10 / 4 ^ k.val % 4 = 0 then .none else if m 10 / 4 ^ k.val % 4 = 1 then .chan .a
          else if m 10 / 4 ^ k.val % 4 = 2 then .chan .b else .report) ∧
        t.framer.effectiveMap[k.val] = t.framer.baseMap[k.val]) ∧
      (∀ i : Fin 16, t.windows[i.val] = decodeWindow (s.loader.buffer.getD (12 + 4 * i.val) 0)
        (s.loader.buffer.getD (13 + 4 * i.val) 0) (s.loader.buffer.getD (14 + 4 * i.val) 0)
        (s.loader.buffer.getD (15 + 4 * i.val) 0)) ∧
      (∀ i : Fin 4, t.watch[i.val] = decodeWatch (s.loader.buffer.getD (196 + 2 * i.val) 0)
        (s.loader.buffer.getD (197 + 2 * i.val) 0)) ∧
      t.events.mask.toNat = m 11 ∧ (∀ p, t.events.kinds.get p = []) ∧ t.faultLow = false ∧
      t.chan = s.chan ∧ t.link = s.link ∧ t.reports = s.reports ∧ t.held = s.held ∧ t.engine = s.engine ∧
      t.shadow = s.shadow ∧ t.framer.level = s.framer.level ∧ t.framer.head = s.framer.head)

/-- The loader disables a window whose first register is above its last, whose preamplifier set is empty or whose kind
code names no kind, and takes head base codes 12–15 as SELECTED; every other field is taken as encoded. A watch entry
with direction code 3 is disabled (R21, R172, R175). -/
def Obligations.WindowsAndWatchDecode : Prop :=
  (∀ w1 w2 w3 w4 : Word, let w := decodeWindow w1 w2 w3 w4
    let kind := w1.toNat / 2 ^ 10 % 8
    let base := w2.toNat / 2 ^ 8 % 16
    (w.enabled = true ↔ w1.getLsbD 15 = true ∧ w1.toNat % 128 ≤ w2.toNat % 128 ∧
      (w1.getLsbD 14 = true ∨ w1.getLsbD 13 = true) ∧ kind < 5) ∧
    w.memberB = w1.getLsbD 14 ∧ w.memberA = w1.getLsbD 13 ∧ w.hold = w1.getLsbD 9 ∧
    w.first.toNat = w1.toNat % 128 ∧ w.last.toNat = w2.toNat % 128 ∧
    (kind = 0 → w.kind = .control) ∧ (kind = 1 → w.kind = .threshold) ∧ (kind = 2 → w.kind = .operating) ∧
    (kind = 3 → w.kind = .faultStatus) ∧ (kind = 4 → w.kind = .faultInject) ∧
    (∀ b : Fin 12, base = b.val → w.headBase = .base b) ∧ (12 ≤ base → w.headBase = .selected) ∧
    w.ext1 = ⟨w3.toNat / 16 % 16, w3.toNat % 16 + 1⟩ ∧ w.ext2 = ⟨w4.toNat / 16 % 16, w4.toNat % 16 + 1⟩) ∧
  ∀ w1 w2 : Word, let e := decodeWatch w1 w2
    let direction := w2.toNat / 16 % 4
    (e.enabled = true ↔ w1.getLsbD 15 = true ∧ direction ≠ 3) ∧
    e.memberB = w1.getLsbD 14 ∧ e.memberA = w1.getLsbD 13 ∧ e.addr.toNat = w1.toNat % 128 ∧
    e.ignoreLow = w2.toNat % 4 ∧ (direction = 0 → e.direction = .write) ∧
    (direction = 1 → e.direction = .read) ∧ (direction = 2 → e.direction = .both)

/-! ## Formats -/

/-- The layouts lose nothing. A header built from its fields reads back as those fields. The drive controller's
assembler reads each record back from its words, whatever words follow: four for an EPISODE record, two for an EVENT
record and three for a TRACE record, the type telling the length (R173, R174). -/
def Obligations.FormatsReadBack : Prop :=
  (∀ h : Header, decodeHeader (encodeHeader h) = h) ∧
  (∀ w : Word, encodeHeader (decodeHeader w) = w) ∧
  (∀ (r : Report) (rest : List Word), r.fits → assembleReport (r.words ++ rest) = some (r, rest)) ∧
  ∀ r : Report, r.words.length = (match r with
    | .episode _ _ _ _ _ => 4
    | .event _ _ _ _ _ _ => 2
    | .trace _ _ _ _ _ => 3)
end

