-- ==== Sys2Proof/Laws/State.lean ====
section
/-!
SUPPORT. The small lemmas of the state's data: reading back a per-side value that was written, and one lemma for each
field of State under each named update, all true by computation, so that no later proof unfolds a record update.
-/

namespace Sys2Proof

/-! ## Per-side values -/

@[simp] theorem PerSide.get_set_same {α : Type} (v : PerSide α) (x : Side) (y : α) : (v.set x y).get x = y := by
  cases x <;> rfl

@[simp] theorem PerSide.get_set_other {α : Type} (v : PerSide α) (x : Side) (y : α) :
    (v.set x y).get x.other = v.get x.other := by
  cases x <;> rfl

@[simp] theorem PerSide.get_other_set {α : Type} (v : PerSide α) (x : Side) (y : α) :
    (v.set x.other y).get x = v.get x := by
  cases x <;> rfl

theorem PerSide.get_set {α : Type} (v : PerSide α) (x z : Side) (y : α) :
    (v.set x y).get z = if z = x then y else v.get z := by
  cases x <;> cases z <;> rfl

@[simp] theorem PerSide.set_get {α : Type} (v : PerSide α) (x : Side) : v.set x (v.get x) = v := by
  cases x <;> rfl

@[simp] theorem PerSide.set_set {α : Type} (v : PerSide α) (x : Side) (y z : α) :
    (v.set x y).set x z = v.set x z := by
  cases x <;> rfl

@[simp] theorem PerSide.get_both {α : Type} (y : α) (x : Side) : (PerSide.both y).get x = y := by
  cases x <;> rfl

@[simp] theorem PerSide.get_a {α : Type} (v : PerSide α) : v.get .a = v.a := rfl

@[simp] theorem PerSide.get_b {α : Type} (v : PerSide α) : v.get .b = v.b := rfl

theorem PerSide.ext_get {α : Type} {v w : PerSide α} (h : ∀ x, v.get x = w.get x) : v = w := by
  cases v
  cases w
  have ha := h .a
  have hb := h .b
  simp only [PerSide.get] at ha hb
  rw [ha, hb]

@[simp] theorem Side.other_ne (x : Side) : x.other ≠ x := by
  cases x <;> decide

@[simp] theorem Side.ne_other (x : Side) : x ≠ x.other := by
  cases x <;> decide

@[simp] theorem Side.other_other (x : Side) : x.other.other = x := by
  cases x <;> rfl

theorem Side.eq_or_other (x z : Side) : z = x ∨ z = x.other := by
  cases x <;> cases z <;> decide

end Sys2Proof

namespace Sys2Proof.Machine

/-! ## Fields under the named updates -/

/-! ### setChan -/

@[simp] theorem State.setChan_pending (x : Side) (c : Channel) (s : State) :
    (s.setChan x c).pending = s.pending := rfl

@[simp] theorem State.setChan_rst (x : Side) (c : Channel) (s : State) : (s.setChan x c).rst = s.rst := rfl

@[simp] theorem State.setChan_loader (x : Side) (c : Channel) (s : State) : (s.setChan x c).loader = s.loader := rfl

@[simp] theorem State.setChan_link (x : Side) (c : Channel) (s : State) : (s.setChan x c).link = s.link := rfl

@[simp] theorem State.setChan_windows (x : Side) (c : Channel) (s : State) :
    (s.setChan x c).windows = s.windows := rfl

@[simp] theorem State.setChan_shadow (x : Side) (c : Channel) (s : State) : (s.setChan x c).shadow = s.shadow := rfl

@[simp] theorem State.setChan_held (x : Side) (c : Channel) (s : State) : (s.setChan x c).held = s.held := rfl

@[simp] theorem State.setChan_heads (x : Side) (c : Channel) (s : State) : (s.setChan x c).heads = s.heads := rfl

@[simp] theorem State.setChan_gates (x : Side) (c : Channel) (s : State) : (s.setChan x c).gates = s.gates := rfl

@[simp] theorem State.setChan_chan (x : Side) (c : Channel) (s : State) : (s.setChan x c).chan = s.chan.set x c := rfl

@[simp] theorem State.setChan_engine (x : Side) (c : Channel) (s : State) : (s.setChan x c).engine = s.engine := rfl

@[simp] theorem State.setChan_thermal (x : Side) (c : Channel) (s : State) :
    (s.setChan x c).thermal = s.thermal := rfl

@[simp] theorem State.setChan_framer (x : Side) (c : Channel) (s : State) : (s.setChan x c).framer = s.framer := rfl

@[simp] theorem State.setChan_budget (x : Side) (c : Channel) (s : State) : (s.setChan x c).budget = s.budget := rfl

@[simp] theorem State.setChan_dwellLimit (x : Side) (c : Channel) (s : State) :
    (s.setChan x c).dwellLimit = s.dwellLimit := rfl

@[simp] theorem State.setChan_earlyPolicy (x : Side) (c : Channel) (s : State) :
    (s.setChan x c).earlyPolicy = s.earlyPolicy := rfl

@[simp] theorem State.setChan_freeze (x : Side) (c : Channel) (s : State) : (s.setChan x c).freeze = s.freeze := rfl

@[simp] theorem State.setChan_events (x : Side) (c : Channel) (s : State) : (s.setChan x c).events = s.events := rfl

@[simp] theorem State.setChan_reports (x : Side) (c : Channel) (s : State) :
    (s.setChan x c).reports = s.reports := rfl

@[simp] theorem State.setChan_watch (x : Side) (c : Channel) (s : State) : (s.setChan x c).watch = s.watch := rfl

@[simp] theorem State.setChan_drives (x : Side) (c : Channel) (s : State) : (s.setChan x c).drives = s.drives := rfl

/-! ### modChan -/

@[simp] theorem State.modChan_pending (x : Side) (f : Channel → Channel) (s : State) :
    (s.modChan x f).pending = s.pending := rfl

@[simp] theorem State.modChan_rst (x : Side) (f : Channel → Channel) (s : State) : (s.modChan x f).rst = s.rst := rfl

@[simp] theorem State.modChan_loader (x : Side) (f : Channel → Channel) (s : State) :
    (s.modChan x f).loader = s.loader := rfl

@[simp] theorem State.modChan_link (x : Side) (f : Channel → Channel) (s : State) :
    (s.modChan x f).link = s.link := rfl

@[simp] theorem State.modChan_windows (x : Side) (f : Channel → Channel) (s : State) :
    (s.modChan x f).windows = s.windows := rfl

@[simp] theorem State.modChan_shadow (x : Side) (f : Channel → Channel) (s : State) :
    (s.modChan x f).shadow = s.shadow := rfl

@[simp] theorem State.modChan_held (x : Side) (f : Channel → Channel) (s : State) :
    (s.modChan x f).held = s.held := rfl

@[simp] theorem State.modChan_heads (x : Side) (f : Channel → Channel) (s : State) :
    (s.modChan x f).heads = s.heads := rfl

@[simp] theorem State.modChan_gates (x : Side) (f : Channel → Channel) (s : State) :
    (s.modChan x f).gates = s.gates := rfl

@[simp] theorem State.modChan_chan (x : Side) (f : Channel → Channel) (s : State) :
    (s.modChan x f).chan = s.chan.set x (f (s.chan.get x)) := rfl

@[simp] theorem State.modChan_engine (x : Side) (f : Channel → Channel) (s : State) :
    (s.modChan x f).engine = s.engine := rfl

@[simp] theorem State.modChan_thermal (x : Side) (f : Channel → Channel) (s : State) :
    (s.modChan x f).thermal = s.thermal := rfl

@[simp] theorem State.modChan_framer (x : Side) (f : Channel → Channel) (s : State) :
    (s.modChan x f).framer = s.framer := rfl

@[simp] theorem State.modChan_budget (x : Side) (f : Channel → Channel) (s : State) :
    (s.modChan x f).budget = s.budget := rfl

@[simp] theorem State.modChan_dwellLimit (x : Side) (f : Channel → Channel) (s : State) :
    (s.modChan x f).dwellLimit = s.dwellLimit := rfl

@[simp] theorem State.modChan_earlyPolicy (x : Side) (f : Channel → Channel) (s : State) :
    (s.modChan x f).earlyPolicy = s.earlyPolicy := rfl

@[simp] theorem State.modChan_freeze (x : Side) (f : Channel → Channel) (s : State) :
    (s.modChan x f).freeze = s.freeze := rfl

@[simp] theorem State.modChan_events (x : Side) (f : Channel → Channel) (s : State) :
    (s.modChan x f).events = s.events := rfl

@[simp] theorem State.modChan_reports (x : Side) (f : Channel → Channel) (s : State) :
    (s.modChan x f).reports = s.reports := rfl

@[simp] theorem State.modChan_watch (x : Side) (f : Channel → Channel) (s : State) :
    (s.modChan x f).watch = s.watch := rfl

@[simp] theorem State.modChan_drives (x : Side) (f : Channel → Channel) (s : State) :
    (s.modChan x f).drives = s.drives := rfl

/-! ### setHead -/

@[simp] theorem State.setHead_pending (x : Side) (h : Fin 12) (r : HeadRecord) (s : State) :
    (s.setHead x h r).pending = s.pending := rfl

@[simp] theorem State.setHead_rst (x : Side) (h : Fin 12) (r : HeadRecord) (s : State) :
    (s.setHead x h r).rst = s.rst := rfl

@[simp] theorem State.setHead_loader (x : Side) (h : Fin 12) (r : HeadRecord) (s : State) :
    (s.setHead x h r).loader = s.loader := rfl

@[simp] theorem State.setHead_link (x : Side) (h : Fin 12) (r : HeadRecord) (s : State) :
    (s.setHead x h r).link = s.link := rfl

@[simp] theorem State.setHead_windows (x : Side) (h : Fin 12) (r : HeadRecord) (s : State) :
    (s.setHead x h r).windows = s.windows := rfl

@[simp] theorem State.setHead_shadow (x : Side) (h : Fin 12) (r : HeadRecord) (s : State) :
    (s.setHead x h r).shadow = s.shadow := rfl

@[simp] theorem State.setHead_held (x : Side) (h : Fin 12) (r : HeadRecord) (s : State) :
    (s.setHead x h r).held = s.held := rfl

@[simp] theorem State.setHead_heads (x : Side) (h : Fin 12) (r : HeadRecord) (s : State) :
    (s.setHead x h r).heads = s.heads.set x ((s.heads.get x).set h.val r) := rfl

@[simp] theorem State.setHead_gates (x : Side) (h : Fin 12) (r : HeadRecord) (s : State) :
    (s.setHead x h r).gates = s.gates := rfl

@[simp] theorem State.setHead_chan (x : Side) (h : Fin 12) (r : HeadRecord) (s : State) :
    (s.setHead x h r).chan = s.chan := rfl

@[simp] theorem State.setHead_engine (x : Side) (h : Fin 12) (r : HeadRecord) (s : State) :
    (s.setHead x h r).engine = s.engine := rfl

@[simp] theorem State.setHead_thermal (x : Side) (h : Fin 12) (r : HeadRecord) (s : State) :
    (s.setHead x h r).thermal = s.thermal := rfl

@[simp] theorem State.setHead_framer (x : Side) (h : Fin 12) (r : HeadRecord) (s : State) :
    (s.setHead x h r).framer = s.framer := rfl

@[simp] theorem State.setHead_budget (x : Side) (h : Fin 12) (r : HeadRecord) (s : State) :
    (s.setHead x h r).budget = s.budget := rfl

@[simp] theorem State.setHead_dwellLimit (x : Side) (h : Fin 12) (r : HeadRecord) (s : State) :
    (s.setHead x h r).dwellLimit = s.dwellLimit := rfl

@[simp] theorem State.setHead_earlyPolicy (x : Side) (h : Fin 12) (r : HeadRecord) (s : State) :
    (s.setHead x h r).earlyPolicy = s.earlyPolicy := rfl

@[simp] theorem State.setHead_freeze (x : Side) (h : Fin 12) (r : HeadRecord) (s : State) :
    (s.setHead x h r).freeze = s.freeze := rfl

@[simp] theorem State.setHead_events (x : Side) (h : Fin 12) (r : HeadRecord) (s : State) :
    (s.setHead x h r).events = s.events := rfl

@[simp] theorem State.setHead_reports (x : Side) (h : Fin 12) (r : HeadRecord) (s : State) :
    (s.setHead x h r).reports = s.reports := rfl

@[simp] theorem State.setHead_watch (x : Side) (h : Fin 12) (r : HeadRecord) (s : State) :
    (s.setHead x h r).watch = s.watch := rfl

@[simp] theorem State.setHead_drives (x : Side) (h : Fin 12) (r : HeadRecord) (s : State) :
    (s.setHead x h r).drives = s.drives := rfl

/-! ### setPlace -/

@[simp] theorem State.setPlace_pending (x : Side) (p : Option ReqClass) (s : State) :
    (s.setPlace x p).pending = s.pending := rfl

@[simp] theorem State.setPlace_rst (x : Side) (p : Option ReqClass) (s : State) : (s.setPlace x p).rst = s.rst := rfl

@[simp] theorem State.setPlace_loader (x : Side) (p : Option ReqClass) (s : State) :
    (s.setPlace x p).loader = s.loader := rfl

@[simp] theorem State.setPlace_link (x : Side) (p : Option ReqClass) (s : State) :
    (s.setPlace x p).link = s.link := rfl

@[simp] theorem State.setPlace_windows (x : Side) (p : Option ReqClass) (s : State) :
    (s.setPlace x p).windows = s.windows := rfl

@[simp] theorem State.setPlace_shadow (x : Side) (p : Option ReqClass) (s : State) :
    (s.setPlace x p).shadow = s.shadow := rfl

@[simp] theorem State.setPlace_held (x : Side) (p : Option ReqClass) (s : State) :
    (s.setPlace x p).held = s.held := rfl

@[simp] theorem State.setPlace_heads (x : Side) (p : Option ReqClass) (s : State) :
    (s.setPlace x p).heads = s.heads := rfl

@[simp] theorem State.setPlace_gates (x : Side) (p : Option ReqClass) (s : State) :
    (s.setPlace x p).gates = s.gates := rfl

@[simp] theorem State.setPlace_chan (x : Side) (p : Option ReqClass) (s : State) :
    (s.setPlace x p).chan = s.chan := rfl

@[simp] theorem State.setPlace_engine (x : Side) (p : Option ReqClass) (s : State) :
    (s.setPlace x p).engine = { s.engine with place := s.engine.place.set x p } := rfl

@[simp] theorem State.setPlace_thermal (x : Side) (p : Option ReqClass) (s : State) :
    (s.setPlace x p).thermal = s.thermal := rfl

@[simp] theorem State.setPlace_framer (x : Side) (p : Option ReqClass) (s : State) :
    (s.setPlace x p).framer = s.framer := rfl

@[simp] theorem State.setPlace_budget (x : Side) (p : Option ReqClass) (s : State) :
    (s.setPlace x p).budget = s.budget := rfl

@[simp] theorem State.setPlace_dwellLimit (x : Side) (p : Option ReqClass) (s : State) :
    (s.setPlace x p).dwellLimit = s.dwellLimit := rfl

@[simp] theorem State.setPlace_earlyPolicy (x : Side) (p : Option ReqClass) (s : State) :
    (s.setPlace x p).earlyPolicy = s.earlyPolicy := rfl

@[simp] theorem State.setPlace_freeze (x : Side) (p : Option ReqClass) (s : State) :
    (s.setPlace x p).freeze = s.freeze := rfl

@[simp] theorem State.setPlace_events (x : Side) (p : Option ReqClass) (s : State) :
    (s.setPlace x p).events = s.events := rfl

@[simp] theorem State.setPlace_reports (x : Side) (p : Option ReqClass) (s : State) :
    (s.setPlace x p).reports = s.reports := rfl

@[simp] theorem State.setPlace_watch (x : Side) (p : Option ReqClass) (s : State) :
    (s.setPlace x p).watch = s.watch := rfl

@[simp] theorem State.setPlace_drives (x : Side) (p : Option ReqClass) (s : State) :
    (s.setPlace x p).drives = s.drives := rfl

/-! ### setUrgent -/

@[simp] theorem State.setUrgent_pending (x : Side) (b : Bool) (s : State) :
    (s.setUrgent x b).pending = s.pending := rfl

@[simp] theorem State.setUrgent_rst (x : Side) (b : Bool) (s : State) : (s.setUrgent x b).rst = s.rst := rfl

@[simp] theorem State.setUrgent_loader (x : Side) (b : Bool) (s : State) : (s.setUrgent x b).loader = s.loader := rfl

@[simp] theorem State.setUrgent_link (x : Side) (b : Bool) (s : State) : (s.setUrgent x b).link = s.link := rfl

@[simp] theorem State.setUrgent_windows (x : Side) (b : Bool) (s : State) :
    (s.setUrgent x b).windows = s.windows := rfl

@[simp] theorem State.setUrgent_shadow (x : Side) (b : Bool) (s : State) : (s.setUrgent x b).shadow = s.shadow := rfl

@[simp] theorem State.setUrgent_held (x : Side) (b : Bool) (s : State) : (s.setUrgent x b).held = s.held := rfl

@[simp] theorem State.setUrgent_heads (x : Side) (b : Bool) (s : State) : (s.setUrgent x b).heads = s.heads := rfl

@[simp] theorem State.setUrgent_gates (x : Side) (b : Bool) (s : State) : (s.setUrgent x b).gates = s.gates := rfl

@[simp] theorem State.setUrgent_chan (x : Side) (b : Bool) (s : State) : (s.setUrgent x b).chan = s.chan := rfl

@[simp] theorem State.setUrgent_engine (x : Side) (b : Bool) (s : State) : (s.setUrgent x b).engine = s.engine := rfl

@[simp] theorem State.setUrgent_thermal (x : Side) (b : Bool) (s : State) :
    (s.setUrgent x b).thermal = s.thermal := rfl

@[simp] theorem State.setUrgent_framer (x : Side) (b : Bool) (s : State) :
    (s.setUrgent x b).framer = { s.framer with urgent := s.framer.urgent.set x b } := rfl

@[simp] theorem State.setUrgent_budget (x : Side) (b : Bool) (s : State) : (s.setUrgent x b).budget = s.budget := rfl

@[simp] theorem State.setUrgent_dwellLimit (x : Side) (b : Bool) (s : State) :
    (s.setUrgent x b).dwellLimit = s.dwellLimit := rfl

@[simp] theorem State.setUrgent_earlyPolicy (x : Side) (b : Bool) (s : State) :
    (s.setUrgent x b).earlyPolicy = s.earlyPolicy := rfl

@[simp] theorem State.setUrgent_freeze (x : Side) (b : Bool) (s : State) : (s.setUrgent x b).freeze = s.freeze := rfl

@[simp] theorem State.setUrgent_events (x : Side) (b : Bool) (s : State) : (s.setUrgent x b).events = s.events := rfl

@[simp] theorem State.setUrgent_reports (x : Side) (b : Bool) (s : State) :
    (s.setUrgent x b).reports = s.reports := rfl

@[simp] theorem State.setUrgent_watch (x : Side) (b : Bool) (s : State) : (s.setUrgent x b).watch = s.watch := rfl

@[simp] theorem State.setUrgent_drives (x : Side) (b : Bool) (s : State) : (s.setUrgent x b).drives = s.drives := rfl

/-! ### setSplit -/

@[simp] theorem State.setSplit_pending (m : SlotSplit) (s : State) :
    (s.setSplit m).pending = s.pending := rfl

@[simp] theorem State.setSplit_rst (m : SlotSplit) (s : State) : (s.setSplit m).rst = s.rst := rfl

@[simp] theorem State.setSplit_loader (m : SlotSplit) (s : State) : (s.setSplit m).loader = s.loader := rfl

@[simp] theorem State.setSplit_link (m : SlotSplit) (s : State) : (s.setSplit m).link = s.link := rfl

@[simp] theorem State.setSplit_windows (m : SlotSplit) (s : State) :
    (s.setSplit m).windows = s.windows := rfl

@[simp] theorem State.setSplit_shadow (m : SlotSplit) (s : State) : (s.setSplit m).shadow = s.shadow := rfl

@[simp] theorem State.setSplit_held (m : SlotSplit) (s : State) : (s.setSplit m).held = s.held := rfl

@[simp] theorem State.setSplit_heads (m : SlotSplit) (s : State) : (s.setSplit m).heads = s.heads := rfl

@[simp] theorem State.setSplit_gates (m : SlotSplit) (s : State) : (s.setSplit m).gates = s.gates := rfl

@[simp] theorem State.setSplit_chan (m : SlotSplit) (s : State) : (s.setSplit m).chan = s.chan := rfl

@[simp] theorem State.setSplit_engine (m : SlotSplit) (s : State) : (s.setSplit m).engine = s.engine := rfl

@[simp] theorem State.setSplit_thermal (m : SlotSplit) (s : State) :
    (s.setSplit m).thermal = s.thermal := rfl

@[simp] theorem State.setSplit_framer (m : SlotSplit) (s : State) :
    (s.setSplit m).framer = { s.framer with split := m } := rfl

@[simp] theorem State.setSplit_budget (m : SlotSplit) (s : State) : (s.setSplit m).budget = s.budget := rfl

@[simp] theorem State.setSplit_dwellLimit (m : SlotSplit) (s : State) :
    (s.setSplit m).dwellLimit = s.dwellLimit := rfl

@[simp] theorem State.setSplit_earlyPolicy (m : SlotSplit) (s : State) :
    (s.setSplit m).earlyPolicy = s.earlyPolicy := rfl

@[simp] theorem State.setSplit_freeze (m : SlotSplit) (s : State) : (s.setSplit m).freeze = s.freeze := rfl

@[simp] theorem State.setSplit_events (m : SlotSplit) (s : State) : (s.setSplit m).events = s.events := rfl

@[simp] theorem State.setSplit_reports (m : SlotSplit) (s : State) :
    (s.setSplit m).reports = s.reports := rfl

@[simp] theorem State.setSplit_watch (m : SlotSplit) (s : State) : (s.setSplit m).watch = s.watch := rfl

@[simp] theorem State.setSplit_drives (m : SlotSplit) (s : State) : (s.setSplit m).drives = s.drives := rfl

/-! ### setHeld -/

@[simp] theorem State.setHeld_pending (l : List HeldEntry) (s : State) : (s.setHeld l).pending = s.pending := rfl

@[simp] theorem State.setHeld_rst (l : List HeldEntry) (s : State) : (s.setHeld l).rst = s.rst := rfl

@[simp] theorem State.setHeld_loader (l : List HeldEntry) (s : State) : (s.setHeld l).loader = s.loader := rfl

@[simp] theorem State.setHeld_link (l : List HeldEntry) (s : State) : (s.setHeld l).link = s.link := rfl

@[simp] theorem State.setHeld_windows (l : List HeldEntry) (s : State) : (s.setHeld l).windows = s.windows := rfl

@[simp] theorem State.setHeld_shadow (l : List HeldEntry) (s : State) : (s.setHeld l).shadow = s.shadow := rfl

@[simp] theorem State.setHeld_held (l : List HeldEntry) (s : State) : (s.setHeld l).held = l := rfl

@[simp] theorem State.setHeld_heads (l : List HeldEntry) (s : State) : (s.setHeld l).heads = s.heads := rfl

@[simp] theorem State.setHeld_gates (l : List HeldEntry) (s : State) : (s.setHeld l).gates = s.gates := rfl

@[simp] theorem State.setHeld_chan (l : List HeldEntry) (s : State) : (s.setHeld l).chan = s.chan := rfl

@[simp] theorem State.setHeld_engine (l : List HeldEntry) (s : State) : (s.setHeld l).engine = s.engine := rfl

@[simp] theorem State.setHeld_thermal (l : List HeldEntry) (s : State) : (s.setHeld l).thermal = s.thermal := rfl

@[simp] theorem State.setHeld_framer (l : List HeldEntry) (s : State) : (s.setHeld l).framer = s.framer := rfl

@[simp] theorem State.setHeld_budget (l : List HeldEntry) (s : State) : (s.setHeld l).budget = s.budget := rfl

@[simp] theorem State.setHeld_dwellLimit (l : List HeldEntry) (s : State) :
    (s.setHeld l).dwellLimit = s.dwellLimit := rfl

@[simp] theorem State.setHeld_earlyPolicy (l : List HeldEntry) (s : State) :
    (s.setHeld l).earlyPolicy = s.earlyPolicy := rfl

@[simp] theorem State.setHeld_freeze (l : List HeldEntry) (s : State) : (s.setHeld l).freeze = s.freeze := rfl

@[simp] theorem State.setHeld_events (l : List HeldEntry) (s : State) : (s.setHeld l).events = s.events := rfl

@[simp] theorem State.setHeld_reports (l : List HeldEntry) (s : State) : (s.setHeld l).reports = s.reports := rfl

@[simp] theorem State.setHeld_watch (l : List HeldEntry) (s : State) : (s.setHeld l).watch = s.watch := rfl

@[simp] theorem State.setHeld_drives (l : List HeldEntry) (s : State) : (s.setHeld l).drives = s.drives := rfl

/-! ### setEmission -/

@[simp] theorem State.setEmission_pending (l : List Txn) (s : State) : (s.setEmission l).pending = s.pending := rfl

@[simp] theorem State.setEmission_rst (l : List Txn) (s : State) : (s.setEmission l).rst = s.rst := rfl

@[simp] theorem State.setEmission_loader (l : List Txn) (s : State) : (s.setEmission l).loader = s.loader := rfl

@[simp] theorem State.setEmission_link (l : List Txn) (s : State) :
    (s.setEmission l).link = { s.link with emission := l } := rfl

@[simp] theorem State.setEmission_windows (l : List Txn) (s : State) : (s.setEmission l).windows = s.windows := rfl

@[simp] theorem State.setEmission_shadow (l : List Txn) (s : State) : (s.setEmission l).shadow = s.shadow := rfl

@[simp] theorem State.setEmission_held (l : List Txn) (s : State) : (s.setEmission l).held = s.held := rfl

@[simp] theorem State.setEmission_heads (l : List Txn) (s : State) : (s.setEmission l).heads = s.heads := rfl

@[simp] theorem State.setEmission_gates (l : List Txn) (s : State) : (s.setEmission l).gates = s.gates := rfl

@[simp] theorem State.setEmission_chan (l : List Txn) (s : State) : (s.setEmission l).chan = s.chan := rfl

@[simp] theorem State.setEmission_engine (l : List Txn) (s : State) : (s.setEmission l).engine = s.engine := rfl

@[simp] theorem State.setEmission_thermal (l : List Txn) (s : State) : (s.setEmission l).thermal = s.thermal := rfl

@[simp] theorem State.setEmission_framer (l : List Txn) (s : State) : (s.setEmission l).framer = s.framer := rfl

@[simp] theorem State.setEmission_budget (l : List Txn) (s : State) : (s.setEmission l).budget = s.budget := rfl

@[simp] theorem State.setEmission_dwellLimit (l : List Txn) (s : State) :
    (s.setEmission l).dwellLimit = s.dwellLimit := rfl

@[simp] theorem State.setEmission_earlyPolicy (l : List Txn) (s : State) :
    (s.setEmission l).earlyPolicy = s.earlyPolicy := rfl

@[simp] theorem State.setEmission_freeze (l : List Txn) (s : State) : (s.setEmission l).freeze = s.freeze := rfl

@[simp] theorem State.setEmission_events (l : List Txn) (s : State) : (s.setEmission l).events = s.events := rfl

@[simp] theorem State.setEmission_reports (l : List Txn) (s : State) : (s.setEmission l).reports = s.reports := rfl

@[simp] theorem State.setEmission_watch (l : List Txn) (s : State) : (s.setEmission l).watch = s.watch := rfl

@[simp] theorem State.setEmission_drives (l : List Txn) (s : State) : (s.setEmission l).drives = s.drives := rfl

/-! ### setWait -/

@[simp] theorem State.setWait_pending (x : Side) (b : Bool) (s : State) : (s.setWait x b).pending = s.pending := rfl

@[simp] theorem State.setWait_rst (x : Side) (b : Bool) (s : State) : (s.setWait x b).rst = s.rst := rfl

@[simp] theorem State.setWait_loader (x : Side) (b : Bool) (s : State) : (s.setWait x b).loader = s.loader := rfl

@[simp] theorem State.setWait_link (x : Side) (b : Bool) (s : State) : (s.setWait x b).link = s.link := rfl

@[simp] theorem State.setWait_windows (x : Side) (b : Bool) (s : State) : (s.setWait x b).windows = s.windows := rfl

@[simp] theorem State.setWait_shadow (x : Side) (b : Bool) (s : State) : (s.setWait x b).shadow = s.shadow := rfl

@[simp] theorem State.setWait_held (x : Side) (b : Bool) (s : State) : (s.setWait x b).held = s.held := rfl

@[simp] theorem State.setWait_heads (x : Side) (b : Bool) (s : State) : (s.setWait x b).heads = s.heads := rfl

@[simp] theorem State.setWait_gates (x : Side) (b : Bool) (s : State) : (s.setWait x b).gates = s.gates := rfl

@[simp] theorem State.setWait_chan (x : Side) (b : Bool) (s : State) : (s.setWait x b).chan = s.chan := rfl

@[simp] theorem State.setWait_engine (x : Side) (b : Bool) (s : State) : (s.setWait x b).engine = s.engine := rfl

@[simp] theorem State.setWait_thermal (x : Side) (b : Bool) (s : State) : (s.setWait x b).thermal = s.thermal := rfl

@[simp] theorem State.setWait_framer (x : Side) (b : Bool) (s : State) : (s.setWait x b).framer = s.framer := rfl

@[simp] theorem State.setWait_budget (x : Side) (b : Bool) (s : State) : (s.setWait x b).budget = s.budget := rfl

@[simp] theorem State.setWait_dwellLimit (x : Side) (b : Bool) (s : State) :
    (s.setWait x b).dwellLimit = s.dwellLimit := rfl

@[simp] theorem State.setWait_earlyPolicy (x : Side) (b : Bool) (s : State) :
    (s.setWait x b).earlyPolicy = s.earlyPolicy := rfl

@[simp] theorem State.setWait_freeze (x : Side) (b : Bool) (s : State) :
    (s.setWait x b).freeze = { s.freeze with wait := s.freeze.wait.set x b } := rfl

@[simp] theorem State.setWait_events (x : Side) (b : Bool) (s : State) : (s.setWait x b).events = s.events := rfl

@[simp] theorem State.setWait_reports (x : Side) (b : Bool) (s : State) : (s.setWait x b).reports = s.reports := rfl

@[simp] theorem State.setWait_watch (x : Side) (b : Bool) (s : State) : (s.setWait x b).watch = s.watch := rfl

@[simp] theorem State.setWait_drives (x : Side) (b : Bool) (s : State) : (s.setWait x b).drives = s.drives := rfl

/-! ### setFrozenEpisode -/

@[simp] theorem State.setFrozenEpisode_pending (x : Side) (b : Bool) (s : State) :
    (s.setFrozenEpisode x b).pending = s.pending := rfl

@[simp] theorem State.setFrozenEpisode_rst (x : Side) (b : Bool) (s : State) :
    (s.setFrozenEpisode x b).rst = s.rst := rfl

@[simp] theorem State.setFrozenEpisode_loader (x : Side) (b : Bool) (s : State) :
    (s.setFrozenEpisode x b).loader = s.loader := rfl

@[simp] theorem State.setFrozenEpisode_link (x : Side) (b : Bool) (s : State) :
    (s.setFrozenEpisode x b).link = s.link := rfl

@[simp] theorem State.setFrozenEpisode_windows (x : Side) (b : Bool) (s : State) :
    (s.setFrozenEpisode x b).windows = s.windows := rfl

@[simp] theorem State.setFrozenEpisode_shadow (x : Side) (b : Bool) (s : State) :
    (s.setFrozenEpisode x b).shadow = s.shadow := rfl

@[simp] theorem State.setFrozenEpisode_held (x : Side) (b : Bool) (s : State) :
    (s.setFrozenEpisode x b).held = s.held := rfl

@[simp] theorem State.setFrozenEpisode_heads (x : Side) (b : Bool) (s : State) :
    (s.setFrozenEpisode x b).heads = s.heads := rfl

@[simp] theorem State.setFrozenEpisode_gates (x : Side) (b : Bool) (s : State) :
    (s.setFrozenEpisode x b).gates = s.gates := rfl

@[simp] theorem State.setFrozenEpisode_chan (x : Side) (b : Bool) (s : State) :
    (s.setFrozenEpisode x b).chan = s.chan := rfl

@[simp] theorem State.setFrozenEpisode_engine (x : Side) (b : Bool) (s : State) :
    (s.setFrozenEpisode x b).engine = s.engine := rfl

@[simp] theorem State.setFrozenEpisode_thermal (x : Side) (b : Bool) (s : State) :
    (s.setFrozenEpisode x b).thermal = s.thermal := rfl

@[simp] theorem State.setFrozenEpisode_framer (x : Side) (b : Bool) (s : State) :
    (s.setFrozenEpisode x b).framer = s.framer := rfl

@[simp] theorem State.setFrozenEpisode_budget (x : Side) (b : Bool) (s : State) :
    (s.setFrozenEpisode x b).budget = s.budget := rfl

@[simp] theorem State.setFrozenEpisode_dwellLimit (x : Side) (b : Bool) (s : State) :
    (s.setFrozenEpisode x b).dwellLimit = s.dwellLimit := rfl

@[simp] theorem State.setFrozenEpisode_earlyPolicy (x : Side) (b : Bool) (s : State) :
    (s.setFrozenEpisode x b).earlyPolicy = s.earlyPolicy := rfl

@[simp] theorem State.setFrozenEpisode_freeze (x : Side) (b : Bool) (s : State) :
    (s.setFrozenEpisode x b).freeze = { s.freeze with frozenEpisode := s.freeze.frozenEpisode.set x b } := rfl

@[simp] theorem State.setFrozenEpisode_events (x : Side) (b : Bool) (s : State) :
    (s.setFrozenEpisode x b).events = s.events := rfl

@[simp] theorem State.setFrozenEpisode_reports (x : Side) (b : Bool) (s : State) :
    (s.setFrozenEpisode x b).reports = s.reports := rfl

@[simp] theorem State.setFrozenEpisode_watch (x : Side) (b : Bool) (s : State) :
    (s.setFrozenEpisode x b).watch = s.watch := rfl

@[simp] theorem State.setFrozenEpisode_drives (x : Side) (b : Bool) (s : State) :
    (s.setFrozenEpisode x b).drives = s.drives := rfl

/-! ### setKinds -/

@[simp] theorem State.setKinds_pending (p : Side) (l : List EventKind) (s : State) :
    (s.setKinds p l).pending = s.pending := rfl

@[simp] theorem State.setKinds_rst (p : Side) (l : List EventKind) (s : State) : (s.setKinds p l).rst = s.rst := rfl

@[simp] theorem State.setKinds_loader (p : Side) (l : List EventKind) (s : State) :
    (s.setKinds p l).loader = s.loader := rfl

@[simp] theorem State.setKinds_link (p : Side) (l : List EventKind) (s : State) :
    (s.setKinds p l).link = s.link := rfl

@[simp] theorem State.setKinds_windows (p : Side) (l : List EventKind) (s : State) :
    (s.setKinds p l).windows = s.windows := rfl

@[simp] theorem State.setKinds_shadow (p : Side) (l : List EventKind) (s : State) :
    (s.setKinds p l).shadow = s.shadow := rfl

@[simp] theorem State.setKinds_held (p : Side) (l : List EventKind) (s : State) :
    (s.setKinds p l).held = s.held := rfl

@[simp] theorem State.setKinds_heads (p : Side) (l : List EventKind) (s : State) :
    (s.setKinds p l).heads = s.heads := rfl

@[simp] theorem State.setKinds_gates (p : Side) (l : List EventKind) (s : State) :
    (s.setKinds p l).gates = s.gates := rfl

@[simp] theorem State.setKinds_chan (p : Side) (l : List EventKind) (s : State) :
    (s.setKinds p l).chan = s.chan := rfl

@[simp] theorem State.setKinds_engine (p : Side) (l : List EventKind) (s : State) :
    (s.setKinds p l).engine = s.engine := rfl

@[simp] theorem State.setKinds_thermal (p : Side) (l : List EventKind) (s : State) :
    (s.setKinds p l).thermal = s.thermal := rfl

@[simp] theorem State.setKinds_framer (p : Side) (l : List EventKind) (s : State) :
    (s.setKinds p l).framer = s.framer := rfl

@[simp] theorem State.setKinds_budget (p : Side) (l : List EventKind) (s : State) :
    (s.setKinds p l).budget = s.budget := rfl

@[simp] theorem State.setKinds_dwellLimit (p : Side) (l : List EventKind) (s : State) :
    (s.setKinds p l).dwellLimit = s.dwellLimit := rfl

@[simp] theorem State.setKinds_earlyPolicy (p : Side) (l : List EventKind) (s : State) :
    (s.setKinds p l).earlyPolicy = s.earlyPolicy := rfl

@[simp] theorem State.setKinds_freeze (p : Side) (l : List EventKind) (s : State) :
    (s.setKinds p l).freeze = s.freeze := rfl

@[simp] theorem State.setKinds_events (p : Side) (l : List EventKind) (s : State) :
    (s.setKinds p l).events = { s.events with kinds := s.events.kinds.set p l } := rfl

@[simp] theorem State.setKinds_reports (p : Side) (l : List EventKind) (s : State) :
    (s.setKinds p l).reports = s.reports := rfl

@[simp] theorem State.setKinds_watch (p : Side) (l : List EventKind) (s : State) :
    (s.setKinds p l).watch = s.watch := rfl

@[simp] theorem State.setKinds_drives (p : Side) (l : List EventKind) (s : State) :
    (s.setKinds p l).drives = s.drives := rfl

/-! ### setRecords -/

@[simp] theorem State.setRecords_pending (l : List Report) (s : State) : (s.setRecords l).pending = s.pending := rfl

@[simp] theorem State.setRecords_rst (l : List Report) (s : State) : (s.setRecords l).rst = s.rst := rfl

@[simp] theorem State.setRecords_loader (l : List Report) (s : State) : (s.setRecords l).loader = s.loader := rfl

@[simp] theorem State.setRecords_link (l : List Report) (s : State) : (s.setRecords l).link = s.link := rfl

@[simp] theorem State.setRecords_windows (l : List Report) (s : State) : (s.setRecords l).windows = s.windows := rfl

@[simp] theorem State.setRecords_shadow (l : List Report) (s : State) : (s.setRecords l).shadow = s.shadow := rfl

@[simp] theorem State.setRecords_held (l : List Report) (s : State) : (s.setRecords l).held = s.held := rfl

@[simp] theorem State.setRecords_heads (l : List Report) (s : State) : (s.setRecords l).heads = s.heads := rfl

@[simp] theorem State.setRecords_gates (l : List Report) (s : State) : (s.setRecords l).gates = s.gates := rfl

@[simp] theorem State.setRecords_chan (l : List Report) (s : State) : (s.setRecords l).chan = s.chan := rfl

@[simp] theorem State.setRecords_engine (l : List Report) (s : State) : (s.setRecords l).engine = s.engine := rfl

@[simp] theorem State.setRecords_thermal (l : List Report) (s : State) : (s.setRecords l).thermal = s.thermal := rfl

@[simp] theorem State.setRecords_framer (l : List Report) (s : State) : (s.setRecords l).framer = s.framer := rfl

@[simp] theorem State.setRecords_budget (l : List Report) (s : State) : (s.setRecords l).budget = s.budget := rfl

@[simp] theorem State.setRecords_dwellLimit (l : List Report) (s : State) :
    (s.setRecords l).dwellLimit = s.dwellLimit := rfl

@[simp] theorem State.setRecords_earlyPolicy (l : List Report) (s : State) :
    (s.setRecords l).earlyPolicy = s.earlyPolicy := rfl

@[simp] theorem State.setRecords_freeze (l : List Report) (s : State) : (s.setRecords l).freeze = s.freeze := rfl

@[simp] theorem State.setRecords_events (l : List Report) (s : State) : (s.setRecords l).events = s.events := rfl

@[simp] theorem State.setRecords_reports (l : List Report) (s : State) :
    (s.setRecords l).reports = { s.reports with records := l } := rfl

@[simp] theorem State.setRecords_watch (l : List Report) (s : State) : (s.setRecords l).watch = s.watch := rfl

@[simp] theorem State.setRecords_drives (l : List Report) (s : State) : (s.setRecords l).drives = s.drives := rfl

/-! ### setWriteGate -/

@[simp] theorem State.setWriteGate_pending (x : Side) (b : Bool) (s : State) :
    (s.setWriteGate x b).pending = s.pending := rfl

@[simp] theorem State.setWriteGate_rst (x : Side) (b : Bool) (s : State) : (s.setWriteGate x b).rst = s.rst := rfl

@[simp] theorem State.setWriteGate_loader (x : Side) (b : Bool) (s : State) :
    (s.setWriteGate x b).loader = s.loader := rfl

@[simp] theorem State.setWriteGate_link (x : Side) (b : Bool) (s : State) : (s.setWriteGate x b).link = s.link := rfl

@[simp] theorem State.setWriteGate_windows (x : Side) (b : Bool) (s : State) :
    (s.setWriteGate x b).windows = s.windows := rfl

@[simp] theorem State.setWriteGate_shadow (x : Side) (b : Bool) (s : State) :
    (s.setWriteGate x b).shadow = s.shadow := rfl

@[simp] theorem State.setWriteGate_held (x : Side) (b : Bool) (s : State) : (s.setWriteGate x b).held = s.held := rfl

@[simp] theorem State.setWriteGate_heads (x : Side) (b : Bool) (s : State) :
    (s.setWriteGate x b).heads = s.heads := rfl

@[simp] theorem State.setWriteGate_gates (x : Side) (b : Bool) (s : State) :
    (s.setWriteGate x b).gates = { s.gates with wg := s.gates.wg.set x (Qualifier.edge b) } := rfl

@[simp] theorem State.setWriteGate_chan (x : Side) (b : Bool) (s : State) : (s.setWriteGate x b).chan = s.chan := rfl

@[simp] theorem State.setWriteGate_engine (x : Side) (b : Bool) (s : State) :
    (s.setWriteGate x b).engine = s.engine := rfl

@[simp] theorem State.setWriteGate_thermal (x : Side) (b : Bool) (s : State) :
    (s.setWriteGate x b).thermal = s.thermal := rfl

@[simp] theorem State.setWriteGate_framer (x : Side) (b : Bool) (s : State) :
    (s.setWriteGate x b).framer = s.framer := rfl

@[simp] theorem State.setWriteGate_budget (x : Side) (b : Bool) (s : State) :
    (s.setWriteGate x b).budget = s.budget := rfl

@[simp] theorem State.setWriteGate_dwellLimit (x : Side) (b : Bool) (s : State) :
    (s.setWriteGate x b).dwellLimit = s.dwellLimit := rfl

@[simp] theorem State.setWriteGate_earlyPolicy (x : Side) (b : Bool) (s : State) :
    (s.setWriteGate x b).earlyPolicy = s.earlyPolicy := rfl

@[simp] theorem State.setWriteGate_freeze (x : Side) (b : Bool) (s : State) :
    (s.setWriteGate x b).freeze = s.freeze := rfl

@[simp] theorem State.setWriteGate_events (x : Side) (b : Bool) (s : State) :
    (s.setWriteGate x b).events = s.events := rfl

@[simp] theorem State.setWriteGate_reports (x : Side) (b : Bool) (s : State) :
    (s.setWriteGate x b).reports = s.reports := rfl

@[simp] theorem State.setWriteGate_watch (x : Side) (b : Bool) (s : State) :
    (s.setWriteGate x b).watch = s.watch := rfl

@[simp] theorem State.setWriteGate_drives (x : Side) (b : Bool) (s : State) :
    (s.setWriteGate x b).drives = s.drives := rfl

/-! ### setServoGate -/

@[simp] theorem State.setServoGate_pending (x : Side) (b : Bool) (s : State) :
    (s.setServoGate x b).pending = s.pending := rfl

@[simp] theorem State.setServoGate_rst (x : Side) (b : Bool) (s : State) : (s.setServoGate x b).rst = s.rst := rfl

@[simp] theorem State.setServoGate_loader (x : Side) (b : Bool) (s : State) :
    (s.setServoGate x b).loader = s.loader := rfl

@[simp] theorem State.setServoGate_link (x : Side) (b : Bool) (s : State) : (s.setServoGate x b).link = s.link := rfl

@[simp] theorem State.setServoGate_windows (x : Side) (b : Bool) (s : State) :
    (s.setServoGate x b).windows = s.windows := rfl

@[simp] theorem State.setServoGate_shadow (x : Side) (b : Bool) (s : State) :
    (s.setServoGate x b).shadow = s.shadow := rfl

@[simp] theorem State.setServoGate_held (x : Side) (b : Bool) (s : State) : (s.setServoGate x b).held = s.held := rfl

@[simp] theorem State.setServoGate_heads (x : Side) (b : Bool) (s : State) :
    (s.setServoGate x b).heads = s.heads := rfl

@[simp] theorem State.setServoGate_gates (x : Side) (b : Bool) (s : State) :
    (s.setServoGate x b).gates = { s.gates with sg := s.gates.sg.set x (Qualifier.edge b) } := rfl

@[simp] theorem State.setServoGate_chan (x : Side) (b : Bool) (s : State) : (s.setServoGate x b).chan = s.chan := rfl

@[simp] theorem State.setServoGate_engine (x : Side) (b : Bool) (s : State) :
    (s.setServoGate x b).engine = s.engine := rfl

@[simp] theorem State.setServoGate_thermal (x : Side) (b : Bool) (s : State) :
    (s.setServoGate x b).thermal = s.thermal := rfl

@[simp] theorem State.setServoGate_framer (x : Side) (b : Bool) (s : State) :
    (s.setServoGate x b).framer = s.framer := rfl

@[simp] theorem State.setServoGate_budget (x : Side) (b : Bool) (s : State) :
    (s.setServoGate x b).budget = s.budget := rfl

@[simp] theorem State.setServoGate_dwellLimit (x : Side) (b : Bool) (s : State) :
    (s.setServoGate x b).dwellLimit = s.dwellLimit := rfl

@[simp] theorem State.setServoGate_earlyPolicy (x : Side) (b : Bool) (s : State) :
    (s.setServoGate x b).earlyPolicy = s.earlyPolicy := rfl

@[simp] theorem State.setServoGate_freeze (x : Side) (b : Bool) (s : State) :
    (s.setServoGate x b).freeze = s.freeze := rfl

@[simp] theorem State.setServoGate_events (x : Side) (b : Bool) (s : State) :
    (s.setServoGate x b).events = s.events := rfl

@[simp] theorem State.setServoGate_reports (x : Side) (b : Bool) (s : State) :
    (s.setServoGate x b).reports = s.reports := rfl

@[simp] theorem State.setServoGate_watch (x : Side) (b : Bool) (s : State) :
    (s.setServoGate x b).watch = s.watch := rfl

@[simp] theorem State.setServoGate_drives (x : Side) (b : Bool) (s : State) :
    (s.setServoGate x b).drives = s.drives := rfl

/-! ### setFrzGate -/

@[simp] theorem State.setFrzGate_pending (b : Bool) (s : State) : (s.setFrzGate b).pending = s.pending := rfl

@[simp] theorem State.setFrzGate_rst (b : Bool) (s : State) : (s.setFrzGate b).rst = s.rst := rfl

@[simp] theorem State.setFrzGate_loader (b : Bool) (s : State) : (s.setFrzGate b).loader = s.loader := rfl

@[simp] theorem State.setFrzGate_link (b : Bool) (s : State) : (s.setFrzGate b).link = s.link := rfl

@[simp] theorem State.setFrzGate_windows (b : Bool) (s : State) : (s.setFrzGate b).windows = s.windows := rfl

@[simp] theorem State.setFrzGate_shadow (b : Bool) (s : State) : (s.setFrzGate b).shadow = s.shadow := rfl

@[simp] theorem State.setFrzGate_held (b : Bool) (s : State) : (s.setFrzGate b).held = s.held := rfl

@[simp] theorem State.setFrzGate_heads (b : Bool) (s : State) : (s.setFrzGate b).heads = s.heads := rfl

@[simp] theorem State.setFrzGate_gates (b : Bool) (s : State) :
    (s.setFrzGate b).gates = { s.gates with frz := Qualifier.edge b } := rfl

@[simp] theorem State.setFrzGate_chan (b : Bool) (s : State) : (s.setFrzGate b).chan = s.chan := rfl

@[simp] theorem State.setFrzGate_engine (b : Bool) (s : State) : (s.setFrzGate b).engine = s.engine := rfl

@[simp] theorem State.setFrzGate_thermal (b : Bool) (s : State) : (s.setFrzGate b).thermal = s.thermal := rfl

@[simp] theorem State.setFrzGate_framer (b : Bool) (s : State) : (s.setFrzGate b).framer = s.framer := rfl

@[simp] theorem State.setFrzGate_budget (b : Bool) (s : State) : (s.setFrzGate b).budget = s.budget := rfl

@[simp] theorem State.setFrzGate_dwellLimit (b : Bool) (s : State) : (s.setFrzGate b).dwellLimit = s.dwellLimit := rfl

@[simp] theorem State.setFrzGate_earlyPolicy (b : Bool) (s : State) :
    (s.setFrzGate b).earlyPolicy = s.earlyPolicy := rfl

@[simp] theorem State.setFrzGate_freeze (b : Bool) (s : State) : (s.setFrzGate b).freeze = s.freeze := rfl

@[simp] theorem State.setFrzGate_events (b : Bool) (s : State) : (s.setFrzGate b).events = s.events := rfl

@[simp] theorem State.setFrzGate_reports (b : Bool) (s : State) : (s.setFrzGate b).reports = s.reports := rfl

@[simp] theorem State.setFrzGate_watch (b : Bool) (s : State) : (s.setFrzGate b).watch = s.watch := rfl

@[simp] theorem State.setFrzGate_drives (b : Bool) (s : State) : (s.setFrzGate b).drives = s.drives := rfl

end Sys2Proof.Machine
end

