-- ==== Sys2Proof/Laws/Frames.lean ====
section
/-!
SUPPORT. The frame of every shared operation of Machine/Ops.lean and Machine/Flags.lean: one simp lemma for each part
of the state that the operation never changes. Written by one pattern for all of them; the lemmas that say what each
operation does stand in Laws/Ops.lean.
-/

namespace Sys2Proof.Machine

/-! ### raiseOverflow: what it leaves unchanged -/

@[simp] theorem raiseOverflow_pending (s : State) :
    (raiseOverflow s).pending = s.pending := by simp [raiseOverflow]

@[simp] theorem raiseOverflow_rst (s : State) :
    (raiseOverflow s).rst = s.rst := by simp [raiseOverflow]

@[simp] theorem raiseOverflow_loader (s : State) :
    (raiseOverflow s).loader = s.loader := by simp [raiseOverflow]

@[simp] theorem raiseOverflow_link (s : State) :
    (raiseOverflow s).link = s.link := by simp [raiseOverflow]

@[simp] theorem raiseOverflow_windows (s : State) :
    (raiseOverflow s).windows = s.windows := by simp [raiseOverflow]

@[simp] theorem raiseOverflow_shadow (s : State) :
    (raiseOverflow s).shadow = s.shadow := by simp [raiseOverflow]

@[simp] theorem raiseOverflow_held (s : State) :
    (raiseOverflow s).held = s.held := by simp [raiseOverflow]

@[simp] theorem raiseOverflow_heads (s : State) :
    (raiseOverflow s).heads = s.heads := by simp [raiseOverflow]

@[simp] theorem raiseOverflow_gates (s : State) :
    (raiseOverflow s).gates = s.gates := by simp [raiseOverflow]

@[simp] theorem raiseOverflow_chan (s : State) :
    (raiseOverflow s).chan = s.chan := by simp [raiseOverflow]

@[simp] theorem raiseOverflow_engine (s : State) :
    (raiseOverflow s).engine = s.engine := by simp [raiseOverflow]

@[simp] theorem raiseOverflow_thermal (s : State) :
    (raiseOverflow s).thermal = s.thermal := by simp [raiseOverflow]

@[simp] theorem raiseOverflow_framer (s : State) :
    (raiseOverflow s).framer = s.framer := by simp [raiseOverflow]

@[simp] theorem raiseOverflow_budget (s : State) :
    (raiseOverflow s).budget = s.budget := by simp [raiseOverflow]

@[simp] theorem raiseOverflow_dwellLimit (s : State) :
    (raiseOverflow s).dwellLimit = s.dwellLimit := by simp [raiseOverflow]

@[simp] theorem raiseOverflow_earlyPolicy (s : State) :
    (raiseOverflow s).earlyPolicy = s.earlyPolicy := by simp [raiseOverflow]

@[simp] theorem raiseOverflow_freeze (s : State) :
    (raiseOverflow s).freeze = s.freeze := by simp [raiseOverflow]

@[simp] theorem raiseOverflow_events_mask (s : State) :
    (raiseOverflow s).events.mask = s.events.mask := by simp [raiseOverflow]

@[simp] theorem raiseOverflow_reports (s : State) :
    (raiseOverflow s).reports = s.reports := by simp [raiseOverflow]

@[simp] theorem raiseOverflow_watch (s : State) :
    (raiseOverflow s).watch = s.watch := by simp [raiseOverflow]

@[simp] theorem raiseOverflow_drives (s : State) :
    (raiseOverflow s).drives = s.drives := by simp [raiseOverflow]

/-! ### queueReport: what it leaves unchanged -/

@[simp] theorem queueReport_pending (r : Report) (s : State) :
    (queueReport r s).pending = s.pending := by
  unfold queueReport
  try dsimp only
  repeat' split
  all_goals simp

@[simp] theorem queueReport_rst (r : Report) (s : State) :
    (queueReport r s).rst = s.rst := by
  unfold queueReport
  try dsimp only
  repeat' split
  all_goals simp

@[simp] theorem queueReport_loader (r : Report) (s : State) :
    (queueReport r s).loader = s.loader := by
  unfold queueReport
  try dsimp only
  repeat' split
  all_goals simp

@[simp] theorem queueReport_link (r : Report) (s : State) :
    (queueReport r s).link = s.link := by
  unfold queueReport
  try dsimp only
  repeat' split
  all_goals simp

@[simp] theorem queueReport_windows (r : Report) (s : State) :
    (queueReport r s).windows = s.windows := by
  unfold queueReport
  try dsimp only
  repeat' split
  all_goals simp

@[simp] theorem queueReport_shadow (r : Report) (s : State) :
    (queueReport r s).shadow = s.shadow := by
  unfold queueReport
  try dsimp only
  repeat' split
  all_goals simp

@[simp] theorem queueReport_held (r : Report) (s : State) :
    (queueReport r s).held = s.held := by
  unfold queueReport
  try dsimp only
  repeat' split
  all_goals simp

@[simp] theorem queueReport_heads (r : Report) (s : State) :
    (queueReport r s).heads = s.heads := by
  unfold queueReport
  try dsimp only
  repeat' split
  all_goals simp

@[simp] theorem queueReport_gates (r : Report) (s : State) :
    (queueReport r s).gates = s.gates := by
  unfold queueReport
  try dsimp only
  repeat' split
  all_goals simp

@[simp] theorem queueReport_chan (r : Report) (s : State) :
    (queueReport r s).chan = s.chan := by
  unfold queueReport
  try dsimp only
  repeat' split
  all_goals simp

@[simp] theorem queueReport_engine (r : Report) (s : State) :
    (queueReport r s).engine = s.engine := by
  unfold queueReport
  try dsimp only
  repeat' split
  all_goals simp

@[simp] theorem queueReport_thermal (r : Report) (s : State) :
    (queueReport r s).thermal = s.thermal := by
  unfold queueReport
  try dsimp only
  repeat' split
  all_goals simp

@[simp] theorem queueReport_framer (r : Report) (s : State) :
    (queueReport r s).framer = s.framer := by
  unfold queueReport
  try dsimp only
  repeat' split
  all_goals simp

@[simp] theorem queueReport_budget (r : Report) (s : State) :
    (queueReport r s).budget = s.budget := by
  unfold queueReport
  try dsimp only
  repeat' split
  all_goals simp

@[simp] theorem queueReport_dwellLimit (r : Report) (s : State) :
    (queueReport r s).dwellLimit = s.dwellLimit := by
  unfold queueReport
  try dsimp only
  repeat' split
  all_goals simp

@[simp] theorem queueReport_earlyPolicy (r : Report) (s : State) :
    (queueReport r s).earlyPolicy = s.earlyPolicy := by
  unfold queueReport
  try dsimp only
  repeat' split
  all_goals simp

@[simp] theorem queueReport_freeze (r : Report) (s : State) :
    (queueReport r s).freeze = s.freeze := by
  unfold queueReport
  try dsimp only
  repeat' split
  all_goals simp

@[simp] theorem queueReport_events_mask (r : Report) (s : State) :
    (queueReport r s).events.mask = s.events.mask := by
  unfold queueReport
  try dsimp only
  repeat' split
  all_goals simp

@[simp] theorem queueReport_reports_sent (r : Report) (s : State) :
    (queueReport r s).reports.sent = s.reports.sent := by
  unfold queueReport
  try dsimp only
  repeat' split
  all_goals simp

@[simp] theorem queueReport_watch (r : Report) (s : State) :
    (queueReport r s).watch = s.watch := by
  unfold queueReport
  try dsimp only
  repeat' split
  all_goals simp

@[simp] theorem queueReport_drives (r : Report) (s : State) :
    (queueReport r s).drives = s.drives := by
  unfold queueReport
  try dsimp only
  repeat' split
  all_goals simp

/-! ### raiseEvent: what it leaves unchanged -/

@[simp] theorem raiseEvent_pending (p : Side) (k : EventKind) (i : Bool) (s : State) :
    (raiseEvent p k i s).pending = s.pending := by simp [raiseEvent]

@[simp] theorem raiseEvent_rst (p : Side) (k : EventKind) (i : Bool) (s : State) :
    (raiseEvent p k i s).rst = s.rst := by simp [raiseEvent]

@[simp] theorem raiseEvent_loader (p : Side) (k : EventKind) (i : Bool) (s : State) :
    (raiseEvent p k i s).loader = s.loader := by simp [raiseEvent]

@[simp] theorem raiseEvent_link (p : Side) (k : EventKind) (i : Bool) (s : State) :
    (raiseEvent p k i s).link = s.link := by simp [raiseEvent]

@[simp] theorem raiseEvent_windows (p : Side) (k : EventKind) (i : Bool) (s : State) :
    (raiseEvent p k i s).windows = s.windows := by simp [raiseEvent]

@[simp] theorem raiseEvent_shadow (p : Side) (k : EventKind) (i : Bool) (s : State) :
    (raiseEvent p k i s).shadow = s.shadow := by simp [raiseEvent]

@[simp] theorem raiseEvent_held (p : Side) (k : EventKind) (i : Bool) (s : State) :
    (raiseEvent p k i s).held = s.held := by simp [raiseEvent]

@[simp] theorem raiseEvent_heads (p : Side) (k : EventKind) (i : Bool) (s : State) :
    (raiseEvent p k i s).heads = s.heads := by simp [raiseEvent]

@[simp] theorem raiseEvent_gates (p : Side) (k : EventKind) (i : Bool) (s : State) :
    (raiseEvent p k i s).gates = s.gates := by simp [raiseEvent]

@[simp] theorem raiseEvent_chan (p : Side) (k : EventKind) (i : Bool) (s : State) :
    (raiseEvent p k i s).chan = s.chan := by simp [raiseEvent]

@[simp] theorem raiseEvent_engine (p : Side) (k : EventKind) (i : Bool) (s : State) :
    (raiseEvent p k i s).engine = s.engine := by simp [raiseEvent]

@[simp] theorem raiseEvent_thermal (p : Side) (k : EventKind) (i : Bool) (s : State) :
    (raiseEvent p k i s).thermal = s.thermal := by simp [raiseEvent]

@[simp] theorem raiseEvent_framer (p : Side) (k : EventKind) (i : Bool) (s : State) :
    (raiseEvent p k i s).framer = s.framer := by simp [raiseEvent]

@[simp] theorem raiseEvent_budget (p : Side) (k : EventKind) (i : Bool) (s : State) :
    (raiseEvent p k i s).budget = s.budget := by simp [raiseEvent]

@[simp] theorem raiseEvent_dwellLimit (p : Side) (k : EventKind) (i : Bool) (s : State) :
    (raiseEvent p k i s).dwellLimit = s.dwellLimit := by simp [raiseEvent]

@[simp] theorem raiseEvent_earlyPolicy (p : Side) (k : EventKind) (i : Bool) (s : State) :
    (raiseEvent p k i s).earlyPolicy = s.earlyPolicy := by simp [raiseEvent]

@[simp] theorem raiseEvent_freeze (p : Side) (k : EventKind) (i : Bool) (s : State) :
    (raiseEvent p k i s).freeze = s.freeze := by simp [raiseEvent]

@[simp] theorem raiseEvent_events_mask (p : Side) (k : EventKind) (i : Bool) (s : State) :
    (raiseEvent p k i s).events.mask = s.events.mask := by simp [raiseEvent]

@[simp] theorem raiseEvent_reports_sent (p : Side) (k : EventKind) (i : Bool) (s : State) :
    (raiseEvent p k i s).reports.sent = s.reports.sent := by simp [raiseEvent]

@[simp] theorem raiseEvent_watch (p : Side) (k : EventKind) (i : Bool) (s : State) :
    (raiseEvent p k i s).watch = s.watch := by simp [raiseEvent]

@[simp] theorem raiseEvent_drives (p : Side) (k : EventKind) (i : Bool) (s : State) :
    (raiseEvent p k i s).drives = s.drives := by simp [raiseEvent]

/-! ### clearWord: what it leaves unchanged -/

@[simp] theorem clearWord_pending (p : Side) (v w : Nat) (s : State) :
    (clearWord p v w s).pending = s.pending := by simp [clearWord]

@[simp] theorem clearWord_rst (p : Side) (v w : Nat) (s : State) :
    (clearWord p v w s).rst = s.rst := by simp [clearWord]

@[simp] theorem clearWord_loader (p : Side) (v w : Nat) (s : State) :
    (clearWord p v w s).loader = s.loader := by simp [clearWord]

@[simp] theorem clearWord_link (p : Side) (v w : Nat) (s : State) :
    (clearWord p v w s).link = s.link := by simp [clearWord]

@[simp] theorem clearWord_windows (p : Side) (v w : Nat) (s : State) :
    (clearWord p v w s).windows = s.windows := by simp [clearWord]

@[simp] theorem clearWord_shadow (p : Side) (v w : Nat) (s : State) :
    (clearWord p v w s).shadow = s.shadow := by simp [clearWord]

@[simp] theorem clearWord_held (p : Side) (v w : Nat) (s : State) :
    (clearWord p v w s).held = s.held := by simp [clearWord]

@[simp] theorem clearWord_heads (p : Side) (v w : Nat) (s : State) :
    (clearWord p v w s).heads = s.heads := by simp [clearWord]

@[simp] theorem clearWord_gates (p : Side) (v w : Nat) (s : State) :
    (clearWord p v w s).gates = s.gates := by simp [clearWord]

@[simp] theorem clearWord_chan (p : Side) (v w : Nat) (s : State) :
    (clearWord p v w s).chan = s.chan := by simp [clearWord]

@[simp] theorem clearWord_engine (p : Side) (v w : Nat) (s : State) :
    (clearWord p v w s).engine = s.engine := by simp [clearWord]

@[simp] theorem clearWord_thermal (p : Side) (v w : Nat) (s : State) :
    (clearWord p v w s).thermal = s.thermal := by simp [clearWord]

@[simp] theorem clearWord_framer (p : Side) (v w : Nat) (s : State) :
    (clearWord p v w s).framer = s.framer := by simp [clearWord]

@[simp] theorem clearWord_budget (p : Side) (v w : Nat) (s : State) :
    (clearWord p v w s).budget = s.budget := by simp [clearWord]

@[simp] theorem clearWord_dwellLimit (p : Side) (v w : Nat) (s : State) :
    (clearWord p v w s).dwellLimit = s.dwellLimit := by simp [clearWord]

@[simp] theorem clearWord_earlyPolicy (p : Side) (v w : Nat) (s : State) :
    (clearWord p v w s).earlyPolicy = s.earlyPolicy := by simp [clearWord]

@[simp] theorem clearWord_freeze (p : Side) (v w : Nat) (s : State) :
    (clearWord p v w s).freeze = s.freeze := by simp [clearWord]

@[simp] theorem clearWord_events_mask (p : Side) (v w : Nat) (s : State) :
    (clearWord p v w s).events.mask = s.events.mask := by simp [clearWord]

@[simp] theorem clearWord_reports (p : Side) (v w : Nat) (s : State) :
    (clearWord p v w s).reports = s.reports := by simp [clearWord]

@[simp] theorem clearWord_watch (p : Side) (v w : Nat) (s : State) :
    (clearWord p v w s).watch = s.watch := by simp [clearWord]

@[simp] theorem clearWord_drives (p : Side) (v w : Nat) (s : State) :
    (clearWord p v w s).drives = s.drives := by simp [clearWord]

/-! ### injectWord: what it leaves unchanged -/

@[simp] theorem injectWord_pending (p : Side) (v : Nat) (s : State) :
    (injectWord p v s).pending = s.pending := by
  unfold injectWord
  try dsimp only
  repeat' split
  all_goals simp

@[simp] theorem injectWord_rst (p : Side) (v : Nat) (s : State) :
    (injectWord p v s).rst = s.rst := by
  unfold injectWord
  try dsimp only
  repeat' split
  all_goals simp

@[simp] theorem injectWord_loader (p : Side) (v : Nat) (s : State) :
    (injectWord p v s).loader = s.loader := by
  unfold injectWord
  try dsimp only
  repeat' split
  all_goals simp

@[simp] theorem injectWord_link (p : Side) (v : Nat) (s : State) :
    (injectWord p v s).link = s.link := by
  unfold injectWord
  try dsimp only
  repeat' split
  all_goals simp

@[simp] theorem injectWord_windows (p : Side) (v : Nat) (s : State) :
    (injectWord p v s).windows = s.windows := by
  unfold injectWord
  try dsimp only
  repeat' split
  all_goals simp

@[simp] theorem injectWord_shadow (p : Side) (v : Nat) (s : State) :
    (injectWord p v s).shadow = s.shadow := by
  unfold injectWord
  try dsimp only
  repeat' split
  all_goals simp

@[simp] theorem injectWord_held (p : Side) (v : Nat) (s : State) :
    (injectWord p v s).held = s.held := by
  unfold injectWord
  try dsimp only
  repeat' split
  all_goals simp

@[simp] theorem injectWord_heads (p : Side) (v : Nat) (s : State) :
    (injectWord p v s).heads = s.heads := by
  unfold injectWord
  try dsimp only
  repeat' split
  all_goals simp

@[simp] theorem injectWord_gates (p : Side) (v : Nat) (s : State) :
    (injectWord p v s).gates = s.gates := by
  unfold injectWord
  try dsimp only
  repeat' split
  all_goals simp

@[simp] theorem injectWord_chan (p : Side) (v : Nat) (s : State) :
    (injectWord p v s).chan = s.chan := by
  unfold injectWord
  try dsimp only
  repeat' split
  all_goals simp

@[simp] theorem injectWord_engine (p : Side) (v : Nat) (s : State) :
    (injectWord p v s).engine = s.engine := by
  unfold injectWord
  try dsimp only
  repeat' split
  all_goals simp

@[simp] theorem injectWord_thermal (p : Side) (v : Nat) (s : State) :
    (injectWord p v s).thermal = s.thermal := by
  unfold injectWord
  try dsimp only
  repeat' split
  all_goals simp

@[simp] theorem injectWord_framer (p : Side) (v : Nat) (s : State) :
    (injectWord p v s).framer = s.framer := by
  unfold injectWord
  try dsimp only
  repeat' split
  all_goals simp

@[simp] theorem injectWord_budget (p : Side) (v : Nat) (s : State) :
    (injectWord p v s).budget = s.budget := by
  unfold injectWord
  try dsimp only
  repeat' split
  all_goals simp

@[simp] theorem injectWord_dwellLimit (p : Side) (v : Nat) (s : State) :
    (injectWord p v s).dwellLimit = s.dwellLimit := by
  unfold injectWord
  try dsimp only
  repeat' split
  all_goals simp

@[simp] theorem injectWord_earlyPolicy (p : Side) (v : Nat) (s : State) :
    (injectWord p v s).earlyPolicy = s.earlyPolicy := by
  unfold injectWord
  try dsimp only
  repeat' split
  all_goals simp

@[simp] theorem injectWord_freeze (p : Side) (v : Nat) (s : State) :
    (injectWord p v s).freeze = s.freeze := by
  unfold injectWord
  try dsimp only
  repeat' split
  all_goals simp

@[simp] theorem injectWord_events_mask (p : Side) (v : Nat) (s : State) :
    (injectWord p v s).events.mask = s.events.mask := by
  unfold injectWord
  try dsimp only
  repeat' split
  all_goals simp

@[simp] theorem injectWord_reports_sent (p : Side) (v : Nat) (s : State) :
    (injectWord p v s).reports.sent = s.reports.sent := by
  unfold injectWord
  try dsimp only
  repeat' split
  all_goals simp

@[simp] theorem injectWord_watch (p : Side) (v : Nat) (s : State) :
    (injectWord p v s).watch = s.watch := by
  unfold injectWord
  try dsimp only
  repeat' split
  all_goals simp

@[simp] theorem injectWord_drives (p : Side) (v : Nat) (s : State) :
    (injectWord p v s).drives = s.drives := by
  unfold injectWord
  try dsimp only
  repeat' split
  all_goals simp

/-! ### captureCode: what it leaves unchanged -/

@[simp] theorem captureCode_pending (x : Side) (h : Fin 12) (n : CodeName) (v : Nat) (s : State) :
    (captureCode x h n v s).pending = s.pending := by
  unfold captureCode
  try dsimp only
  repeat' split
  all_goals simp

@[simp] theorem captureCode_rst (x : Side) (h : Fin 12) (n : CodeName) (v : Nat) (s : State) :
    (captureCode x h n v s).rst = s.rst := by
  unfold captureCode
  try dsimp only
  repeat' split
  all_goals simp

@[simp] theorem captureCode_loader (x : Side) (h : Fin 12) (n : CodeName) (v : Nat) (s : State) :
    (captureCode x h n v s).loader = s.loader := by
  unfold captureCode
  try dsimp only
  repeat' split
  all_goals simp

@[simp] theorem captureCode_link (x : Side) (h : Fin 12) (n : CodeName) (v : Nat) (s : State) :
    (captureCode x h n v s).link = s.link := by
  unfold captureCode
  try dsimp only
  repeat' split
  all_goals simp

@[simp] theorem captureCode_windows (x : Side) (h : Fin 12) (n : CodeName) (v : Nat) (s : State) :
    (captureCode x h n v s).windows = s.windows := by
  unfold captureCode
  try dsimp only
  repeat' split
  all_goals simp

@[simp] theorem captureCode_shadow (x : Side) (h : Fin 12) (n : CodeName) (v : Nat) (s : State) :
    (captureCode x h n v s).shadow = s.shadow := by
  unfold captureCode
  try dsimp only
  repeat' split
  all_goals simp

@[simp] theorem captureCode_held (x : Side) (h : Fin 12) (n : CodeName) (v : Nat) (s : State) :
    (captureCode x h n v s).held = s.held := by
  unfold captureCode
  try dsimp only
  repeat' split
  all_goals simp

@[simp] theorem captureCode_gates (x : Side) (h : Fin 12) (n : CodeName) (v : Nat) (s : State) :
    (captureCode x h n v s).gates = s.gates := by
  unfold captureCode
  try dsimp only
  repeat' split
  all_goals simp

@[simp] theorem captureCode_chan (x : Side) (h : Fin 12) (n : CodeName) (v : Nat) (s : State) :
    (captureCode x h n v s).chan = s.chan := by
  unfold captureCode
  try dsimp only
  repeat' split
  all_goals simp

@[simp] theorem captureCode_engine (x : Side) (h : Fin 12) (n : CodeName) (v : Nat) (s : State) :
    (captureCode x h n v s).engine = s.engine := by
  unfold captureCode
  try dsimp only
  repeat' split
  all_goals simp

@[simp] theorem captureCode_thermal (x : Side) (h : Fin 12) (n : CodeName) (v : Nat) (s : State) :
    (captureCode x h n v s).thermal = s.thermal := by
  unfold captureCode
  try dsimp only
  repeat' split
  all_goals simp

@[simp] theorem captureCode_framer (x : Side) (h : Fin 12) (n : CodeName) (v : Nat) (s : State) :
    (captureCode x h n v s).framer = s.framer := by
  unfold captureCode
  try dsimp only
  repeat' split
  all_goals simp

@[simp] theorem captureCode_budget (x : Side) (h : Fin 12) (n : CodeName) (v : Nat) (s : State) :
    (captureCode x h n v s).budget = s.budget := by
  unfold captureCode
  try dsimp only
  repeat' split
  all_goals simp

@[simp] theorem captureCode_dwellLimit (x : Side) (h : Fin 12) (n : CodeName) (v : Nat) (s : State) :
    (captureCode x h n v s).dwellLimit = s.dwellLimit := by
  unfold captureCode
  try dsimp only
  repeat' split
  all_goals simp

@[simp] theorem captureCode_earlyPolicy (x : Side) (h : Fin 12) (n : CodeName) (v : Nat) (s : State) :
    (captureCode x h n v s).earlyPolicy = s.earlyPolicy := by
  unfold captureCode
  try dsimp only
  repeat' split
  all_goals simp

@[simp] theorem captureCode_freeze (x : Side) (h : Fin 12) (n : CodeName) (v : Nat) (s : State) :
    (captureCode x h n v s).freeze = s.freeze := by
  unfold captureCode
  try dsimp only
  repeat' split
  all_goals simp

@[simp] theorem captureCode_events_mask (x : Side) (h : Fin 12) (n : CodeName) (v : Nat) (s : State) :
    (captureCode x h n v s).events.mask = s.events.mask := by
  unfold captureCode
  try dsimp only
  repeat' split
  all_goals simp

@[simp] theorem captureCode_reports_sent (x : Side) (h : Fin 12) (n : CodeName) (v : Nat) (s : State) :
    (captureCode x h n v s).reports.sent = s.reports.sent := by
  unfold captureCode
  try dsimp only
  repeat' split
  all_goals simp

@[simp] theorem captureCode_watch (x : Side) (h : Fin 12) (n : CodeName) (v : Nat) (s : State) :
    (captureCode x h n v s).watch = s.watch := by
  unfold captureCode
  try dsimp only
  repeat' split
  all_goals simp

@[simp] theorem captureCode_drives (x : Side) (h : Fin 12) (n : CodeName) (v : Nat) (s : State) :
    (captureCode x h n v s).drives = s.drives := by
  unfold captureCode
  try dsimp only
  repeat' split
  all_goals simp

/-! ### captureEntry: what it leaves unchanged -/

@[simp] theorem captureEntry_pending (e : HeldEntry) (s : State) :
    (captureEntry s e).pending = s.pending := by simp [captureEntry]

@[simp] theorem captureEntry_rst (e : HeldEntry) (s : State) :
    (captureEntry s e).rst = s.rst := by simp [captureEntry]

@[simp] theorem captureEntry_loader (e : HeldEntry) (s : State) :
    (captureEntry s e).loader = s.loader := by simp [captureEntry]

@[simp] theorem captureEntry_link (e : HeldEntry) (s : State) :
    (captureEntry s e).link = s.link := by simp [captureEntry]

@[simp] theorem captureEntry_windows (e : HeldEntry) (s : State) :
    (captureEntry s e).windows = s.windows := by simp [captureEntry]

@[simp] theorem captureEntry_shadow (e : HeldEntry) (s : State) :
    (captureEntry s e).shadow = s.shadow := by simp [captureEntry]

@[simp] theorem captureEntry_held (e : HeldEntry) (s : State) :
    (captureEntry s e).held = s.held := by simp [captureEntry]

@[simp] theorem captureEntry_gates (e : HeldEntry) (s : State) :
    (captureEntry s e).gates = s.gates := by simp [captureEntry]

@[simp] theorem captureEntry_chan (e : HeldEntry) (s : State) :
    (captureEntry s e).chan = s.chan := by simp [captureEntry]

@[simp] theorem captureEntry_engine (e : HeldEntry) (s : State) :
    (captureEntry s e).engine = s.engine := by simp [captureEntry]

@[simp] theorem captureEntry_thermal (e : HeldEntry) (s : State) :
    (captureEntry s e).thermal = s.thermal := by simp [captureEntry]

@[simp] theorem captureEntry_framer (e : HeldEntry) (s : State) :
    (captureEntry s e).framer = s.framer := by simp [captureEntry]

@[simp] theorem captureEntry_budget (e : HeldEntry) (s : State) :
    (captureEntry s e).budget = s.budget := by simp [captureEntry]

@[simp] theorem captureEntry_dwellLimit (e : HeldEntry) (s : State) :
    (captureEntry s e).dwellLimit = s.dwellLimit := by simp [captureEntry]

@[simp] theorem captureEntry_earlyPolicy (e : HeldEntry) (s : State) :
    (captureEntry s e).earlyPolicy = s.earlyPolicy := by simp [captureEntry]

@[simp] theorem captureEntry_freeze (e : HeldEntry) (s : State) :
    (captureEntry s e).freeze = s.freeze := by simp [captureEntry]

@[simp] theorem captureEntry_events_mask (e : HeldEntry) (s : State) :
    (captureEntry s e).events.mask = s.events.mask := by simp [captureEntry]

@[simp] theorem captureEntry_reports_sent (e : HeldEntry) (s : State) :
    (captureEntry s e).reports.sent = s.reports.sent := by simp [captureEntry]

@[simp] theorem captureEntry_watch (e : HeldEntry) (s : State) :
    (captureEntry s e).watch = s.watch := by simp [captureEntry]

@[simp] theorem captureEntry_drives (e : HeldEntry) (s : State) :
    (captureEntry s e).drives = s.drives := by simp [captureEntry]

/-! ### captureAll: what it leaves unchanged -/

@[simp] theorem captureAll_pending (l : List HeldEntry) (s : State) :
    (l.foldl captureEntry s).pending = s.pending := by
  induction l generalizing s with
  | nil => rfl
  | cons e l ih => simp [ih]

@[simp] theorem captureAll_rst (l : List HeldEntry) (s : State) :
    (l.foldl captureEntry s).rst = s.rst := by
  induction l generalizing s with
  | nil => rfl
  | cons e l ih => simp [ih]

@[simp] theorem captureAll_loader (l : List HeldEntry) (s : State) :
    (l.foldl captureEntry s).loader = s.loader := by
  induction l generalizing s with
  | nil => rfl
  | cons e l ih => simp [ih]

@[simp] theorem captureAll_link (l : List HeldEntry) (s : State) :
    (l.foldl captureEntry s).link = s.link := by
  induction l generalizing s with
  | nil => rfl
  | cons e l ih => simp [ih]

@[simp] theorem captureAll_windows (l : List HeldEntry) (s : State) :
    (l.foldl captureEntry s).windows = s.windows := by
  induction l generalizing s with
  | nil => rfl
  | cons e l ih => simp [ih]

@[simp] theorem captureAll_shadow (l : List HeldEntry) (s : State) :
    (l.foldl captureEntry s).shadow = s.shadow := by
  induction l generalizing s with
  | nil => rfl
  | cons e l ih => simp [ih]

@[simp] theorem captureAll_held (l : List HeldEntry) (s : State) :
    (l.foldl captureEntry s).held = s.held := by
  induction l generalizing s with
  | nil => rfl
  | cons e l ih => simp [ih]

@[simp] theorem captureAll_gates (l : List HeldEntry) (s : State) :
    (l.foldl captureEntry s).gates = s.gates := by
  induction l generalizing s with
  | nil => rfl
  | cons e l ih => simp [ih]

@[simp] theorem captureAll_chan (l : List HeldEntry) (s : State) :
    (l.foldl captureEntry s).chan = s.chan := by
  induction l generalizing s with
  | nil => rfl
  | cons e l ih => simp [ih]

@[simp] theorem captureAll_engine (l : List HeldEntry) (s : State) :
    (l.foldl captureEntry s).engine = s.engine := by
  induction l generalizing s with
  | nil => rfl
  | cons e l ih => simp [ih]

@[simp] theorem captureAll_thermal (l : List HeldEntry) (s : State) :
    (l.foldl captureEntry s).thermal = s.thermal := by
  induction l generalizing s with
  | nil => rfl
  | cons e l ih => simp [ih]

@[simp] theorem captureAll_framer (l : List HeldEntry) (s : State) :
    (l.foldl captureEntry s).framer = s.framer := by
  induction l generalizing s with
  | nil => rfl
  | cons e l ih => simp [ih]

@[simp] theorem captureAll_budget (l : List HeldEntry) (s : State) :
    (l.foldl captureEntry s).budget = s.budget := by
  induction l generalizing s with
  | nil => rfl
  | cons e l ih => simp [ih]

@[simp] theorem captureAll_dwellLimit (l : List HeldEntry) (s : State) :
    (l.foldl captureEntry s).dwellLimit = s.dwellLimit := by
  induction l generalizing s with
  | nil => rfl
  | cons e l ih => simp [ih]

@[simp] theorem captureAll_earlyPolicy (l : List HeldEntry) (s : State) :
    (l.foldl captureEntry s).earlyPolicy = s.earlyPolicy := by
  induction l generalizing s with
  | nil => rfl
  | cons e l ih => simp [ih]

@[simp] theorem captureAll_freeze (l : List HeldEntry) (s : State) :
    (l.foldl captureEntry s).freeze = s.freeze := by
  induction l generalizing s with
  | nil => rfl
  | cons e l ih => simp [ih]

@[simp] theorem captureAll_events_mask (l : List HeldEntry) (s : State) :
    (l.foldl captureEntry s).events.mask = s.events.mask := by
  induction l generalizing s with
  | nil => rfl
  | cons e l ih => simp [ih]

@[simp] theorem captureAll_reports_sent (l : List HeldEntry) (s : State) :
    (l.foldl captureEntry s).reports.sent = s.reports.sent := by
  induction l generalizing s with
  | nil => rfl
  | cons e l ih => simp [ih]

@[simp] theorem captureAll_watch (l : List HeldEntry) (s : State) :
    (l.foldl captureEntry s).watch = s.watch := by
  induction l generalizing s with
  | nil => rfl
  | cons e l ih => simp [ih]

@[simp] theorem captureAll_drives (l : List HeldEntry) (s : State) :
    (l.foldl captureEntry s).drives = s.drives := by
  induction l generalizing s with
  | nil => rfl
  | cons e l ih => simp [ih]

/-! ### releaseHeld: what it leaves unchanged -/

@[simp] theorem releaseHeld_pending (p : Side) (s : State) :
    (releaseHeld p s).pending = s.pending := by simp [releaseHeld]

@[simp] theorem releaseHeld_rst (p : Side) (s : State) :
    (releaseHeld p s).rst = s.rst := by simp [releaseHeld]

@[simp] theorem releaseHeld_loader (p : Side) (s : State) :
    (releaseHeld p s).loader = s.loader := by simp [releaseHeld]

@[simp] theorem releaseHeld_link_upstream (p : Side) (s : State) :
    (releaseHeld p s).link.upstream = s.link.upstream := by simp [releaseHeld]

@[simp] theorem releaseHeld_link_ulwt (p : Side) (s : State) :
    (releaseHeld p s).link.ulwt = s.link.ulwt := by simp [releaseHeld]

@[simp] theorem releaseHeld_link_ulda (p : Side) (s : State) :
    (releaseHeld p s).link.ulda = s.link.ulda := by simp [releaseHeld]

@[simp] theorem releaseHeld_link_buffer (p : Side) (s : State) :
    (releaseHeld p s).link.buffer = s.link.buffer := by simp [releaseHeld]

@[simp] theorem releaseHeld_link_sending (p : Side) (s : State) :
    (releaseHeld p s).link.sending = s.link.sending := by simp [releaseHeld]

@[simp] theorem releaseHeld_link_dlda (p : Side) (s : State) :
    (releaseHeld p s).link.dlda = s.link.dlda := by simp [releaseHeld]

@[simp] theorem releaseHeld_windows (p : Side) (s : State) :
    (releaseHeld p s).windows = s.windows := by simp [releaseHeld]

@[simp] theorem releaseHeld_shadow (p : Side) (s : State) :
    (releaseHeld p s).shadow = s.shadow := by simp [releaseHeld]

@[simp] theorem releaseHeld_gates (p : Side) (s : State) :
    (releaseHeld p s).gates = s.gates := by simp [releaseHeld]

@[simp] theorem releaseHeld_chan (p : Side) (s : State) :
    (releaseHeld p s).chan = s.chan := by simp [releaseHeld]

@[simp] theorem releaseHeld_engine (p : Side) (s : State) :
    (releaseHeld p s).engine = s.engine := by simp [releaseHeld]

@[simp] theorem releaseHeld_thermal (p : Side) (s : State) :
    (releaseHeld p s).thermal = s.thermal := by simp [releaseHeld]

@[simp] theorem releaseHeld_framer (p : Side) (s : State) :
    (releaseHeld p s).framer = s.framer := by simp [releaseHeld]

@[simp] theorem releaseHeld_budget (p : Side) (s : State) :
    (releaseHeld p s).budget = s.budget := by simp [releaseHeld]

@[simp] theorem releaseHeld_dwellLimit (p : Side) (s : State) :
    (releaseHeld p s).dwellLimit = s.dwellLimit := by simp [releaseHeld]

@[simp] theorem releaseHeld_earlyPolicy (p : Side) (s : State) :
    (releaseHeld p s).earlyPolicy = s.earlyPolicy := by simp [releaseHeld]

@[simp] theorem releaseHeld_freeze (p : Side) (s : State) :
    (releaseHeld p s).freeze = s.freeze := by simp [releaseHeld]

@[simp] theorem releaseHeld_events_mask (p : Side) (s : State) :
    (releaseHeld p s).events.mask = s.events.mask := by simp [releaseHeld]

@[simp] theorem releaseHeld_reports_sent (p : Side) (s : State) :
    (releaseHeld p s).reports.sent = s.reports.sent := by simp [releaseHeld]

@[simp] theorem releaseHeld_watch (p : Side) (s : State) :
    (releaseHeld p s).watch = s.watch := by simp [releaseHeld]

@[simp] theorem releaseHeld_drives (p : Side) (s : State) :
    (releaseHeld p s).drives = s.drives := by simp [releaseHeld]

/-! ### postRequest: what it leaves unchanged -/

@[simp] theorem postRequest_pending (x : Side) (c : ReqClass) (s : State) :
    (postRequest x c s).pending = s.pending := by
  unfold postRequest
  try dsimp only
  repeat' split
  all_goals simp

@[simp] theorem postRequest_rst (x : Side) (c : ReqClass) (s : State) :
    (postRequest x c s).rst = s.rst := by
  unfold postRequest
  try dsimp only
  repeat' split
  all_goals simp

@[simp] theorem postRequest_loader (x : Side) (c : ReqClass) (s : State) :
    (postRequest x c s).loader = s.loader := by
  unfold postRequest
  try dsimp only
  repeat' split
  all_goals simp

@[simp] theorem postRequest_link (x : Side) (c : ReqClass) (s : State) :
    (postRequest x c s).link = s.link := by
  unfold postRequest
  try dsimp only
  repeat' split
  all_goals simp

@[simp] theorem postRequest_windows (x : Side) (c : ReqClass) (s : State) :
    (postRequest x c s).windows = s.windows := by
  unfold postRequest
  try dsimp only
  repeat' split
  all_goals simp

@[simp] theorem postRequest_shadow (x : Side) (c : ReqClass) (s : State) :
    (postRequest x c s).shadow = s.shadow := by
  unfold postRequest
  try dsimp only
  repeat' split
  all_goals simp

@[simp] theorem postRequest_held (x : Side) (c : ReqClass) (s : State) :
    (postRequest x c s).held = s.held := by
  unfold postRequest
  try dsimp only
  repeat' split
  all_goals simp

@[simp] theorem postRequest_heads (x : Side) (c : ReqClass) (s : State) :
    (postRequest x c s).heads = s.heads := by
  unfold postRequest
  try dsimp only
  repeat' split
  all_goals simp

@[simp] theorem postRequest_gates (x : Side) (c : ReqClass) (s : State) :
    (postRequest x c s).gates = s.gates := by
  unfold postRequest
  try dsimp only
  repeat' split
  all_goals simp

@[simp] theorem postRequest_chan (x : Side) (c : ReqClass) (s : State) :
    (postRequest x c s).chan = s.chan := by
  unfold postRequest
  try dsimp only
  repeat' split
  all_goals simp

@[simp] theorem postRequest_engine_unit (x : Side) (c : ReqClass) (s : State) :
    (postRequest x c s).engine.unit = s.engine.unit := by
  unfold postRequest
  try dsimp only
  repeat' split
  all_goals simp

@[simp] theorem postRequest_engine_lastServed (x : Side) (c : ReqClass) (s : State) :
    (postRequest x c s).engine.lastServed = s.engine.lastServed := by
  unfold postRequest
  try dsimp only
  repeat' split
  all_goals simp

@[simp] theorem postRequest_thermal (x : Side) (c : ReqClass) (s : State) :
    (postRequest x c s).thermal = s.thermal := by
  unfold postRequest
  try dsimp only
  repeat' split
  all_goals simp

@[simp] theorem postRequest_framer (x : Side) (c : ReqClass) (s : State) :
    (postRequest x c s).framer = s.framer := by
  unfold postRequest
  try dsimp only
  repeat' split
  all_goals simp

@[simp] theorem postRequest_budget (x : Side) (c : ReqClass) (s : State) :
    (postRequest x c s).budget = s.budget := by
  unfold postRequest
  try dsimp only
  repeat' split
  all_goals simp

@[simp] theorem postRequest_dwellLimit (x : Side) (c : ReqClass) (s : State) :
    (postRequest x c s).dwellLimit = s.dwellLimit := by
  unfold postRequest
  try dsimp only
  repeat' split
  all_goals simp

@[simp] theorem postRequest_earlyPolicy (x : Side) (c : ReqClass) (s : State) :
    (postRequest x c s).earlyPolicy = s.earlyPolicy := by
  unfold postRequest
  try dsimp only
  repeat' split
  all_goals simp

@[simp] theorem postRequest_freeze (x : Side) (c : ReqClass) (s : State) :
    (postRequest x c s).freeze = s.freeze := by
  unfold postRequest
  try dsimp only
  repeat' split
  all_goals simp

@[simp] theorem postRequest_events (x : Side) (c : ReqClass) (s : State) :
    (postRequest x c s).events = s.events := by
  unfold postRequest
  try dsimp only
  repeat' split
  all_goals simp

@[simp] theorem postRequest_reports (x : Side) (c : ReqClass) (s : State) :
    (postRequest x c s).reports = s.reports := by
  unfold postRequest
  try dsimp only
  repeat' split
  all_goals simp

@[simp] theorem postRequest_watch (x : Side) (c : ReqClass) (s : State) :
    (postRequest x c s).watch = s.watch := by
  unfold postRequest
  try dsimp only
  repeat' split
  all_goals simp

@[simp] theorem postRequest_drives (x : Side) (c : ReqClass) (s : State) :
    (postRequest x c s).drives = s.drives := by
  unfold postRequest
  try dsimp only
  repeat' split
  all_goals simp

/-! ### leaveEpisode: what it leaves unchanged -/

@[simp] theorem leaveEpisode_pending (x : Side) (d : ChanState) (o : EpisodeOutcome) (s : State) :
    (leaveEpisode x d o s).pending = s.pending := by simp [leaveEpisode]

@[simp] theorem leaveEpisode_rst (x : Side) (d : ChanState) (o : EpisodeOutcome) (s : State) :
    (leaveEpisode x d o s).rst = s.rst := by simp [leaveEpisode]

@[simp] theorem leaveEpisode_loader (x : Side) (d : ChanState) (o : EpisodeOutcome) (s : State) :
    (leaveEpisode x d o s).loader = s.loader := by simp [leaveEpisode]

@[simp] theorem leaveEpisode_link_upstream (x : Side) (d : ChanState) (o : EpisodeOutcome) (s : State) :
    (leaveEpisode x d o s).link.upstream = s.link.upstream := by simp [leaveEpisode]

@[simp] theorem leaveEpisode_link_ulwt (x : Side) (d : ChanState) (o : EpisodeOutcome) (s : State) :
    (leaveEpisode x d o s).link.ulwt = s.link.ulwt := by simp [leaveEpisode]

@[simp] theorem leaveEpisode_link_ulda (x : Side) (d : ChanState) (o : EpisodeOutcome) (s : State) :
    (leaveEpisode x d o s).link.ulda = s.link.ulda := by simp [leaveEpisode]

@[simp] theorem leaveEpisode_link_buffer (x : Side) (d : ChanState) (o : EpisodeOutcome) (s : State) :
    (leaveEpisode x d o s).link.buffer = s.link.buffer := by simp [leaveEpisode]

@[simp] theorem leaveEpisode_link_sending (x : Side) (d : ChanState) (o : EpisodeOutcome) (s : State) :
    (leaveEpisode x d o s).link.sending = s.link.sending := by simp [leaveEpisode]

@[simp] theorem leaveEpisode_link_dlda (x : Side) (d : ChanState) (o : EpisodeOutcome) (s : State) :
    (leaveEpisode x d o s).link.dlda = s.link.dlda := by simp [leaveEpisode]

@[simp] theorem leaveEpisode_windows (x : Side) (d : ChanState) (o : EpisodeOutcome) (s : State) :
    (leaveEpisode x d o s).windows = s.windows := by simp [leaveEpisode]

@[simp] theorem leaveEpisode_shadow (x : Side) (d : ChanState) (o : EpisodeOutcome) (s : State) :
    (leaveEpisode x d o s).shadow = s.shadow := by simp [leaveEpisode]

@[simp] theorem leaveEpisode_gates (x : Side) (d : ChanState) (o : EpisodeOutcome) (s : State) :
    (leaveEpisode x d o s).gates = s.gates := by simp [leaveEpisode]

@[simp] theorem leaveEpisode_engine_unit (x : Side) (d : ChanState) (o : EpisodeOutcome) (s : State) :
    (leaveEpisode x d o s).engine.unit = s.engine.unit := by simp [leaveEpisode]

@[simp] theorem leaveEpisode_engine_lastServed (x : Side) (d : ChanState) (o : EpisodeOutcome) (s : State) :
    (leaveEpisode x d o s).engine.lastServed = s.engine.lastServed := by simp [leaveEpisode]

@[simp] theorem leaveEpisode_thermal (x : Side) (d : ChanState) (o : EpisodeOutcome) (s : State) :
    (leaveEpisode x d o s).thermal = s.thermal := by simp [leaveEpisode]

@[simp] theorem leaveEpisode_framer_slot (x : Side) (d : ChanState) (o : EpisodeOutcome) (s : State) :
    (leaveEpisode x d o s).framer.slot = s.framer.slot := by simp [leaveEpisode]

@[simp] theorem leaveEpisode_framer_baseMap (x : Side) (d : ChanState) (o : EpisodeOutcome) (s : State) :
    (leaveEpisode x d o s).framer.baseMap = s.framer.baseMap := by simp [leaveEpisode]

@[simp] theorem leaveEpisode_framer_effectiveMap (x : Side) (d : ChanState) (o : EpisodeOutcome) (s : State) :
    (leaveEpisode x d o s).framer.effectiveMap = s.framer.effectiveMap := by simp [leaveEpisode]

@[simp] theorem leaveEpisode_framer_level (x : Side) (d : ChanState) (o : EpisodeOutcome) (s : State) :
    (leaveEpisode x d o s).framer.level = s.framer.level := by simp [leaveEpisode]

@[simp] theorem leaveEpisode_framer_head (x : Side) (d : ChanState) (o : EpisodeOutcome) (s : State) :
    (leaveEpisode x d o s).framer.head = s.framer.head := by simp [leaveEpisode]

@[simp] theorem leaveEpisode_framer_lbda (x : Side) (d : ChanState) (o : EpisodeOutcome) (s : State) :
    (leaveEpisode x d o s).framer.lbda = s.framer.lbda := by simp [leaveEpisode]

@[simp] theorem leaveEpisode_framer_lbds (x : Side) (d : ChanState) (o : EpisodeOutcome) (s : State) :
    (leaveEpisode x d o s).framer.lbds = s.framer.lbds := by simp [leaveEpisode]

@[simp] theorem leaveEpisode_budget (x : Side) (d : ChanState) (o : EpisodeOutcome) (s : State) :
    (leaveEpisode x d o s).budget = s.budget := by simp [leaveEpisode]

@[simp] theorem leaveEpisode_dwellLimit (x : Side) (d : ChanState) (o : EpisodeOutcome) (s : State) :
    (leaveEpisode x d o s).dwellLimit = s.dwellLimit := by simp [leaveEpisode]

@[simp] theorem leaveEpisode_earlyPolicy (x : Side) (d : ChanState) (o : EpisodeOutcome) (s : State) :
    (leaveEpisode x d o s).earlyPolicy = s.earlyPolicy := by simp [leaveEpisode]

@[simp] theorem leaveEpisode_freeze (x : Side) (d : ChanState) (o : EpisodeOutcome) (s : State) :
    (leaveEpisode x d o s).freeze = s.freeze := by simp [leaveEpisode]

@[simp] theorem leaveEpisode_events_mask (x : Side) (d : ChanState) (o : EpisodeOutcome) (s : State) :
    (leaveEpisode x d o s).events.mask = s.events.mask := by simp [leaveEpisode]

@[simp] theorem leaveEpisode_reports_sent (x : Side) (d : ChanState) (o : EpisodeOutcome) (s : State) :
    (leaveEpisode x d o s).reports.sent = s.reports.sent := by simp [leaveEpisode]

@[simp] theorem leaveEpisode_watch (x : Side) (d : ChanState) (o : EpisodeOutcome) (s : State) :
    (leaveEpisode x d o s).watch = s.watch := by simp [leaveEpisode]

@[simp] theorem leaveEpisode_drives (x : Side) (d : ChanState) (o : EpisodeOutcome) (s : State) :
    (leaveEpisode x d o s).drives = s.drives := by simp [leaveEpisode]

/-! ### leaveFrozen: what it leaves unchanged -/

@[simp] theorem leaveFrozen_pending (x : Side) (s : State) :
    (leaveFrozen x s).pending = s.pending := by simp [leaveFrozen]

@[simp] theorem leaveFrozen_rst (x : Side) (s : State) :
    (leaveFrozen x s).rst = s.rst := by simp [leaveFrozen]

@[simp] theorem leaveFrozen_loader (x : Side) (s : State) :
    (leaveFrozen x s).loader = s.loader := by simp [leaveFrozen]

@[simp] theorem leaveFrozen_link_upstream (x : Side) (s : State) :
    (leaveFrozen x s).link.upstream = s.link.upstream := by simp [leaveFrozen]

@[simp] theorem leaveFrozen_link_ulwt (x : Side) (s : State) :
    (leaveFrozen x s).link.ulwt = s.link.ulwt := by simp [leaveFrozen]

@[simp] theorem leaveFrozen_link_ulda (x : Side) (s : State) :
    (leaveFrozen x s).link.ulda = s.link.ulda := by simp [leaveFrozen]

@[simp] theorem leaveFrozen_link_buffer (x : Side) (s : State) :
    (leaveFrozen x s).link.buffer = s.link.buffer := by simp [leaveFrozen]

@[simp] theorem leaveFrozen_link_sending (x : Side) (s : State) :
    (leaveFrozen x s).link.sending = s.link.sending := by simp [leaveFrozen]

@[simp] theorem leaveFrozen_link_dlda (x : Side) (s : State) :
    (leaveFrozen x s).link.dlda = s.link.dlda := by simp [leaveFrozen]

@[simp] theorem leaveFrozen_windows (x : Side) (s : State) :
    (leaveFrozen x s).windows = s.windows := by simp [leaveFrozen]

@[simp] theorem leaveFrozen_shadow (x : Side) (s : State) :
    (leaveFrozen x s).shadow = s.shadow := by simp [leaveFrozen]

@[simp] theorem leaveFrozen_gates (x : Side) (s : State) :
    (leaveFrozen x s).gates = s.gates := by simp [leaveFrozen]

@[simp] theorem leaveFrozen_engine_unit (x : Side) (s : State) :
    (leaveFrozen x s).engine.unit = s.engine.unit := by simp [leaveFrozen]

@[simp] theorem leaveFrozen_engine_lastServed (x : Side) (s : State) :
    (leaveFrozen x s).engine.lastServed = s.engine.lastServed := by simp [leaveFrozen]

@[simp] theorem leaveFrozen_thermal (x : Side) (s : State) :
    (leaveFrozen x s).thermal = s.thermal := by simp [leaveFrozen]

@[simp] theorem leaveFrozen_framer_slot (x : Side) (s : State) :
    (leaveFrozen x s).framer.slot = s.framer.slot := by simp [leaveFrozen]

@[simp] theorem leaveFrozen_framer_baseMap (x : Side) (s : State) :
    (leaveFrozen x s).framer.baseMap = s.framer.baseMap := by simp [leaveFrozen]

@[simp] theorem leaveFrozen_framer_effectiveMap (x : Side) (s : State) :
    (leaveFrozen x s).framer.effectiveMap = s.framer.effectiveMap := by simp [leaveFrozen]

@[simp] theorem leaveFrozen_framer_level (x : Side) (s : State) :
    (leaveFrozen x s).framer.level = s.framer.level := by simp [leaveFrozen]

@[simp] theorem leaveFrozen_framer_head (x : Side) (s : State) :
    (leaveFrozen x s).framer.head = s.framer.head := by simp [leaveFrozen]

@[simp] theorem leaveFrozen_framer_lbda (x : Side) (s : State) :
    (leaveFrozen x s).framer.lbda = s.framer.lbda := by simp [leaveFrozen]

@[simp] theorem leaveFrozen_framer_lbds (x : Side) (s : State) :
    (leaveFrozen x s).framer.lbds = s.framer.lbds := by simp [leaveFrozen]

@[simp] theorem leaveFrozen_budget (x : Side) (s : State) :
    (leaveFrozen x s).budget = s.budget := by simp [leaveFrozen]

@[simp] theorem leaveFrozen_dwellLimit (x : Side) (s : State) :
    (leaveFrozen x s).dwellLimit = s.dwellLimit := by simp [leaveFrozen]

@[simp] theorem leaveFrozen_earlyPolicy (x : Side) (s : State) :
    (leaveFrozen x s).earlyPolicy = s.earlyPolicy := by simp [leaveFrozen]

@[simp] theorem leaveFrozen_freeze_mode (x : Side) (s : State) :
    (leaveFrozen x s).freeze.mode = s.freeze.mode := by simp [leaveFrozen]

@[simp] theorem leaveFrozen_freeze_active (x : Side) (s : State) :
    (leaveFrozen x s).freeze.active = s.freeze.active := by simp [leaveFrozen]

@[simp] theorem leaveFrozen_events_mask (x : Side) (s : State) :
    (leaveFrozen x s).events.mask = s.events.mask := by simp [leaveFrozen]

@[simp] theorem leaveFrozen_reports_sent (x : Side) (s : State) :
    (leaveFrozen x s).reports.sent = s.reports.sent := by simp [leaveFrozen]

@[simp] theorem leaveFrozen_watch (x : Side) (s : State) :
    (leaveFrozen x s).watch = s.watch := by simp [leaveFrozen]

@[simp] theorem leaveFrozen_drives (x : Side) (s : State) :
    (leaveFrozen x s).drives = s.drives := by simp [leaveFrozen]

/-! ### enterWriting: what it leaves unchanged -/

@[simp] theorem enterWriting_pending (x : Side) (s : State) :
    (enterWriting x s).pending = s.pending := by simp [enterWriting]

@[simp] theorem enterWriting_rst (x : Side) (s : State) :
    (enterWriting x s).rst = s.rst := by simp [enterWriting]

@[simp] theorem enterWriting_loader (x : Side) (s : State) :
    (enterWriting x s).loader = s.loader := by simp [enterWriting]

@[simp] theorem enterWriting_link (x : Side) (s : State) :
    (enterWriting x s).link = s.link := by simp [enterWriting]

@[simp] theorem enterWriting_windows (x : Side) (s : State) :
    (enterWriting x s).windows = s.windows := by simp [enterWriting]

@[simp] theorem enterWriting_shadow (x : Side) (s : State) :
    (enterWriting x s).shadow = s.shadow := by simp [enterWriting]

@[simp] theorem enterWriting_held (x : Side) (s : State) :
    (enterWriting x s).held = s.held := by simp [enterWriting]

@[simp] theorem enterWriting_heads (x : Side) (s : State) :
    (enterWriting x s).heads = s.heads := by simp [enterWriting]

@[simp] theorem enterWriting_gates (x : Side) (s : State) :
    (enterWriting x s).gates = s.gates := by simp [enterWriting]

@[simp] theorem enterWriting_engine (x : Side) (s : State) :
    (enterWriting x s).engine = s.engine := by simp [enterWriting]

@[simp] theorem enterWriting_thermal (x : Side) (s : State) :
    (enterWriting x s).thermal = s.thermal := by simp [enterWriting]

@[simp] theorem enterWriting_framer (x : Side) (s : State) :
    (enterWriting x s).framer = s.framer := by simp [enterWriting]

@[simp] theorem enterWriting_budget (x : Side) (s : State) :
    (enterWriting x s).budget = s.budget := by simp [enterWriting]

@[simp] theorem enterWriting_dwellLimit (x : Side) (s : State) :
    (enterWriting x s).dwellLimit = s.dwellLimit := by simp [enterWriting]

@[simp] theorem enterWriting_earlyPolicy (x : Side) (s : State) :
    (enterWriting x s).earlyPolicy = s.earlyPolicy := by simp [enterWriting]

@[simp] theorem enterWriting_freeze (x : Side) (s : State) :
    (enterWriting x s).freeze = s.freeze := by simp [enterWriting]

@[simp] theorem enterWriting_events (x : Side) (s : State) :
    (enterWriting x s).events = s.events := by simp [enterWriting]

@[simp] theorem enterWriting_reports (x : Side) (s : State) :
    (enterWriting x s).reports = s.reports := by simp [enterWriting]

@[simp] theorem enterWriting_watch (x : Side) (s : State) :
    (enterWriting x s).watch = s.watch := by simp [enterWriting]

@[simp] theorem enterWriting_drives (x : Side) (s : State) :
    (enterWriting x s).drives = s.drives := by simp [enterWriting]

/-! ### enterHolding: what it leaves unchanged -/

@[simp] theorem enterHolding_pending (x : Side) (s : State) :
    (enterHolding x s).pending = s.pending := by simp [enterHolding]

@[simp] theorem enterHolding_rst (x : Side) (s : State) :
    (enterHolding x s).rst = s.rst := by simp [enterHolding]

@[simp] theorem enterHolding_loader (x : Side) (s : State) :
    (enterHolding x s).loader = s.loader := by simp [enterHolding]

@[simp] theorem enterHolding_link (x : Side) (s : State) :
    (enterHolding x s).link = s.link := by simp [enterHolding]

@[simp] theorem enterHolding_windows (x : Side) (s : State) :
    (enterHolding x s).windows = s.windows := by simp [enterHolding]

@[simp] theorem enterHolding_shadow (x : Side) (s : State) :
    (enterHolding x s).shadow = s.shadow := by simp [enterHolding]

@[simp] theorem enterHolding_held (x : Side) (s : State) :
    (enterHolding x s).held = s.held := by simp [enterHolding]

@[simp] theorem enterHolding_heads (x : Side) (s : State) :
    (enterHolding x s).heads = s.heads := by simp [enterHolding]

@[simp] theorem enterHolding_gates (x : Side) (s : State) :
    (enterHolding x s).gates = s.gates := by simp [enterHolding]

@[simp] theorem enterHolding_engine (x : Side) (s : State) :
    (enterHolding x s).engine = s.engine := by simp [enterHolding]

@[simp] theorem enterHolding_thermal (x : Side) (s : State) :
    (enterHolding x s).thermal = s.thermal := by simp [enterHolding]

@[simp] theorem enterHolding_framer (x : Side) (s : State) :
    (enterHolding x s).framer = s.framer := by simp [enterHolding]

@[simp] theorem enterHolding_budget (x : Side) (s : State) :
    (enterHolding x s).budget = s.budget := by simp [enterHolding]

@[simp] theorem enterHolding_dwellLimit (x : Side) (s : State) :
    (enterHolding x s).dwellLimit = s.dwellLimit := by simp [enterHolding]

@[simp] theorem enterHolding_earlyPolicy (x : Side) (s : State) :
    (enterHolding x s).earlyPolicy = s.earlyPolicy := by simp [enterHolding]

@[simp] theorem enterHolding_freeze (x : Side) (s : State) :
    (enterHolding x s).freeze = s.freeze := by simp [enterHolding]

@[simp] theorem enterHolding_events (x : Side) (s : State) :
    (enterHolding x s).events = s.events := by simp [enterHolding]

@[simp] theorem enterHolding_reports (x : Side) (s : State) :
    (enterHolding x s).reports = s.reports := by simp [enterHolding]

@[simp] theorem enterHolding_watch (x : Side) (s : State) :
    (enterHolding x s).watch = s.watch := by simp [enterHolding]

@[simp] theorem enterHolding_drives (x : Side) (s : State) :
    (enterHolding x s).drives = s.drives := by simp [enterHolding]

/-! ### takeArm: what it leaves unchanged -/

@[simp] theorem takeArm_pending (x : Side) (h : Fin 16) (s : State) :
    (takeArm x h s).pending = s.pending := by
  unfold takeArm
  try dsimp only
  repeat' split
  all_goals simp

@[simp] theorem takeArm_rst (x : Side) (h : Fin 16) (s : State) :
    (takeArm x h s).rst = s.rst := by
  unfold takeArm
  try dsimp only
  repeat' split
  all_goals simp

@[simp] theorem takeArm_loader (x : Side) (h : Fin 16) (s : State) :
    (takeArm x h s).loader = s.loader := by
  unfold takeArm
  try dsimp only
  repeat' split
  all_goals simp

@[simp] theorem takeArm_link (x : Side) (h : Fin 16) (s : State) :
    (takeArm x h s).link = s.link := by
  unfold takeArm
  try dsimp only
  repeat' split
  all_goals simp

@[simp] theorem takeArm_windows (x : Side) (h : Fin 16) (s : State) :
    (takeArm x h s).windows = s.windows := by
  unfold takeArm
  try dsimp only
  repeat' split
  all_goals simp

@[simp] theorem takeArm_shadow (x : Side) (h : Fin 16) (s : State) :
    (takeArm x h s).shadow = s.shadow := by
  unfold takeArm
  try dsimp only
  repeat' split
  all_goals simp

@[simp] theorem takeArm_held (x : Side) (h : Fin 16) (s : State) :
    (takeArm x h s).held = s.held := by
  unfold takeArm
  try dsimp only
  repeat' split
  all_goals simp

@[simp] theorem takeArm_heads (x : Side) (h : Fin 16) (s : State) :
    (takeArm x h s).heads = s.heads := by
  unfold takeArm
  try dsimp only
  repeat' split
  all_goals simp

@[simp] theorem takeArm_gates (x : Side) (h : Fin 16) (s : State) :
    (takeArm x h s).gates = s.gates := by
  unfold takeArm
  try dsimp only
  repeat' split
  all_goals simp

@[simp] theorem takeArm_engine_unit (x : Side) (h : Fin 16) (s : State) :
    (takeArm x h s).engine.unit = s.engine.unit := by
  unfold takeArm
  try dsimp only
  repeat' split
  all_goals simp

@[simp] theorem takeArm_engine_lastServed (x : Side) (h : Fin 16) (s : State) :
    (takeArm x h s).engine.lastServed = s.engine.lastServed := by
  unfold takeArm
  try dsimp only
  repeat' split
  all_goals simp

@[simp] theorem takeArm_thermal (x : Side) (h : Fin 16) (s : State) :
    (takeArm x h s).thermal = s.thermal := by
  unfold takeArm
  try dsimp only
  repeat' split
  all_goals simp

@[simp] theorem takeArm_framer (x : Side) (h : Fin 16) (s : State) :
    (takeArm x h s).framer = s.framer := by
  unfold takeArm
  try dsimp only
  repeat' split
  all_goals simp

@[simp] theorem takeArm_budget (x : Side) (h : Fin 16) (s : State) :
    (takeArm x h s).budget = s.budget := by
  unfold takeArm
  try dsimp only
  repeat' split
  all_goals simp

@[simp] theorem takeArm_dwellLimit (x : Side) (h : Fin 16) (s : State) :
    (takeArm x h s).dwellLimit = s.dwellLimit := by
  unfold takeArm
  try dsimp only
  repeat' split
  all_goals simp

@[simp] theorem takeArm_earlyPolicy (x : Side) (h : Fin 16) (s : State) :
    (takeArm x h s).earlyPolicy = s.earlyPolicy := by
  unfold takeArm
  try dsimp only
  repeat' split
  all_goals simp

@[simp] theorem takeArm_freeze (x : Side) (h : Fin 16) (s : State) :
    (takeArm x h s).freeze = s.freeze := by
  unfold takeArm
  try dsimp only
  repeat' split
  all_goals simp

@[simp] theorem takeArm_events_mask (x : Side) (h : Fin 16) (s : State) :
    (takeArm x h s).events.mask = s.events.mask := by
  unfold takeArm
  try dsimp only
  repeat' split
  all_goals simp

@[simp] theorem takeArm_reports_sent (x : Side) (h : Fin 16) (s : State) :
    (takeArm x h s).reports.sent = s.reports.sent := by
  unfold takeArm
  try dsimp only
  repeat' split
  all_goals simp

@[simp] theorem takeArm_watch (x : Side) (h : Fin 16) (s : State) :
    (takeArm x h s).watch = s.watch := by
  unfold takeArm
  try dsimp only
  repeat' split
  all_goals simp

@[simp] theorem takeArm_drives (x : Side) (h : Fin 16) (s : State) :
    (takeArm x h s).drives = s.drives := by
  unfold takeArm
  try dsimp only
  repeat' split
  all_goals simp

/-! ### recheckArm: what it leaves unchanged -/

@[simp] theorem recheckArm_pending (x : Side) (h : Fin 16) (s : State) :
    (recheckArm x h s).pending = s.pending := by
  unfold recheckArm
  try dsimp only
  repeat' split
  all_goals simp

@[simp] theorem recheckArm_rst (x : Side) (h : Fin 16) (s : State) :
    (recheckArm x h s).rst = s.rst := by
  unfold recheckArm
  try dsimp only
  repeat' split
  all_goals simp

@[simp] theorem recheckArm_loader (x : Side) (h : Fin 16) (s : State) :
    (recheckArm x h s).loader = s.loader := by
  unfold recheckArm
  try dsimp only
  repeat' split
  all_goals simp

@[simp] theorem recheckArm_link (x : Side) (h : Fin 16) (s : State) :
    (recheckArm x h s).link = s.link := by
  unfold recheckArm
  try dsimp only
  repeat' split
  all_goals simp

@[simp] theorem recheckArm_windows (x : Side) (h : Fin 16) (s : State) :
    (recheckArm x h s).windows = s.windows := by
  unfold recheckArm
  try dsimp only
  repeat' split
  all_goals simp

@[simp] theorem recheckArm_shadow (x : Side) (h : Fin 16) (s : State) :
    (recheckArm x h s).shadow = s.shadow := by
  unfold recheckArm
  try dsimp only
  repeat' split
  all_goals simp

@[simp] theorem recheckArm_held (x : Side) (h : Fin 16) (s : State) :
    (recheckArm x h s).held = s.held := by
  unfold recheckArm
  try dsimp only
  repeat' split
  all_goals simp

@[simp] theorem recheckArm_heads (x : Side) (h : Fin 16) (s : State) :
    (recheckArm x h s).heads = s.heads := by
  unfold recheckArm
  try dsimp only
  repeat' split
  all_goals simp

@[simp] theorem recheckArm_gates (x : Side) (h : Fin 16) (s : State) :
    (recheckArm x h s).gates = s.gates := by
  unfold recheckArm
  try dsimp only
  repeat' split
  all_goals simp

@[simp] theorem recheckArm_chan (x : Side) (h : Fin 16) (s : State) :
    (recheckArm x h s).chan = s.chan := by
  unfold recheckArm
  try dsimp only
  repeat' split
  all_goals simp

@[simp] theorem recheckArm_engine (x : Side) (h : Fin 16) (s : State) :
    (recheckArm x h s).engine = s.engine := by
  unfold recheckArm
  try dsimp only
  repeat' split
  all_goals simp

@[simp] theorem recheckArm_thermal (x : Side) (h : Fin 16) (s : State) :
    (recheckArm x h s).thermal = s.thermal := by
  unfold recheckArm
  try dsimp only
  repeat' split
  all_goals simp

@[simp] theorem recheckArm_framer (x : Side) (h : Fin 16) (s : State) :
    (recheckArm x h s).framer = s.framer := by
  unfold recheckArm
  try dsimp only
  repeat' split
  all_goals simp

@[simp] theorem recheckArm_budget (x : Side) (h : Fin 16) (s : State) :
    (recheckArm x h s).budget = s.budget := by
  unfold recheckArm
  try dsimp only
  repeat' split
  all_goals simp

@[simp] theorem recheckArm_dwellLimit (x : Side) (h : Fin 16) (s : State) :
    (recheckArm x h s).dwellLimit = s.dwellLimit := by
  unfold recheckArm
  try dsimp only
  repeat' split
  all_goals simp

@[simp] theorem recheckArm_earlyPolicy (x : Side) (h : Fin 16) (s : State) :
    (recheckArm x h s).earlyPolicy = s.earlyPolicy := by
  unfold recheckArm
  try dsimp only
  repeat' split
  all_goals simp

@[simp] theorem recheckArm_freeze (x : Side) (h : Fin 16) (s : State) :
    (recheckArm x h s).freeze = s.freeze := by
  unfold recheckArm
  try dsimp only
  repeat' split
  all_goals simp

@[simp] theorem recheckArm_events_mask (x : Side) (h : Fin 16) (s : State) :
    (recheckArm x h s).events.mask = s.events.mask := by
  unfold recheckArm
  try dsimp only
  repeat' split
  all_goals simp

@[simp] theorem recheckArm_reports_sent (x : Side) (h : Fin 16) (s : State) :
    (recheckArm x h s).reports.sent = s.reports.sent := by
  unfold recheckArm
  try dsimp only
  repeat' split
  all_goals simp

@[simp] theorem recheckArm_watch (x : Side) (h : Fin 16) (s : State) :
    (recheckArm x h s).watch = s.watch := by
  unfold recheckArm
  try dsimp only
  repeat' split
  all_goals simp

@[simp] theorem recheckArm_drives (x : Side) (h : Fin 16) (s : State) :
    (recheckArm x h s).drives = s.drives := by
  unfold recheckArm
  try dsimp only
  repeat' split
  all_goals simp

/-! ### freezeChannel: what it leaves unchanged -/

@[simp] theorem freezeChannel_pending (x : Side) (s : State) :
    (freezeChannel x s).pending = s.pending := by
  unfold freezeChannel
  try dsimp only
  repeat' split
  all_goals simp

@[simp] theorem freezeChannel_rst (x : Side) (s : State) :
    (freezeChannel x s).rst = s.rst := by
  unfold freezeChannel
  try dsimp only
  repeat' split
  all_goals simp

@[simp] theorem freezeChannel_loader (x : Side) (s : State) :
    (freezeChannel x s).loader = s.loader := by
  unfold freezeChannel
  try dsimp only
  repeat' split
  all_goals simp

@[simp] theorem freezeChannel_link_upstream (x : Side) (s : State) :
    (freezeChannel x s).link.upstream = s.link.upstream := by
  unfold freezeChannel
  try dsimp only
  repeat' split
  all_goals simp

@[simp] theorem freezeChannel_link_ulwt (x : Side) (s : State) :
    (freezeChannel x s).link.ulwt = s.link.ulwt := by
  unfold freezeChannel
  try dsimp only
  repeat' split
  all_goals simp

@[simp] theorem freezeChannel_link_ulda (x : Side) (s : State) :
    (freezeChannel x s).link.ulda = s.link.ulda := by
  unfold freezeChannel
  try dsimp only
  repeat' split
  all_goals simp

@[simp] theorem freezeChannel_link_buffer (x : Side) (s : State) :
    (freezeChannel x s).link.buffer = s.link.buffer := by
  unfold freezeChannel
  try dsimp only
  repeat' split
  all_goals simp

@[simp] theorem freezeChannel_link_sending (x : Side) (s : State) :
    (freezeChannel x s).link.sending = s.link.sending := by
  unfold freezeChannel
  try dsimp only
  repeat' split
  all_goals simp

@[simp] theorem freezeChannel_link_dlda (x : Side) (s : State) :
    (freezeChannel x s).link.dlda = s.link.dlda := by
  unfold freezeChannel
  try dsimp only
  repeat' split
  all_goals simp

@[simp] theorem freezeChannel_windows (x : Side) (s : State) :
    (freezeChannel x s).windows = s.windows := by
  unfold freezeChannel
  try dsimp only
  repeat' split
  all_goals simp

@[simp] theorem freezeChannel_shadow (x : Side) (s : State) :
    (freezeChannel x s).shadow = s.shadow := by
  unfold freezeChannel
  try dsimp only
  repeat' split
  all_goals simp

@[simp] theorem freezeChannel_gates (x : Side) (s : State) :
    (freezeChannel x s).gates = s.gates := by
  unfold freezeChannel
  try dsimp only
  repeat' split
  all_goals simp

@[simp] theorem freezeChannel_engine_unit (x : Side) (s : State) :
    (freezeChannel x s).engine.unit = s.engine.unit := by
  unfold freezeChannel
  try dsimp only
  repeat' split
  all_goals simp

@[simp] theorem freezeChannel_engine_lastServed (x : Side) (s : State) :
    (freezeChannel x s).engine.lastServed = s.engine.lastServed := by
  unfold freezeChannel
  try dsimp only
  repeat' split
  all_goals simp

@[simp] theorem freezeChannel_thermal (x : Side) (s : State) :
    (freezeChannel x s).thermal = s.thermal := by
  unfold freezeChannel
  try dsimp only
  repeat' split
  all_goals simp

@[simp] theorem freezeChannel_framer_slot (x : Side) (s : State) :
    (freezeChannel x s).framer.slot = s.framer.slot := by
  unfold freezeChannel
  try dsimp only
  repeat' split
  all_goals simp

@[simp] theorem freezeChannel_framer_baseMap (x : Side) (s : State) :
    (freezeChannel x s).framer.baseMap = s.framer.baseMap := by
  unfold freezeChannel
  try dsimp only
  repeat' split
  all_goals simp

@[simp] theorem freezeChannel_framer_effectiveMap (x : Side) (s : State) :
    (freezeChannel x s).framer.effectiveMap = s.framer.effectiveMap := by
  unfold freezeChannel
  try dsimp only
  repeat' split
  all_goals simp

@[simp] theorem freezeChannel_framer_level (x : Side) (s : State) :
    (freezeChannel x s).framer.level = s.framer.level := by
  unfold freezeChannel
  try dsimp only
  repeat' split
  all_goals simp

@[simp] theorem freezeChannel_framer_head (x : Side) (s : State) :
    (freezeChannel x s).framer.head = s.framer.head := by
  unfold freezeChannel
  try dsimp only
  repeat' split
  all_goals simp

@[simp] theorem freezeChannel_framer_lbda (x : Side) (s : State) :
    (freezeChannel x s).framer.lbda = s.framer.lbda := by
  unfold freezeChannel
  try dsimp only
  repeat' split
  all_goals simp

@[simp] theorem freezeChannel_framer_lbds (x : Side) (s : State) :
    (freezeChannel x s).framer.lbds = s.framer.lbds := by
  unfold freezeChannel
  try dsimp only
  repeat' split
  all_goals simp

@[simp] theorem freezeChannel_budget (x : Side) (s : State) :
    (freezeChannel x s).budget = s.budget := by
  unfold freezeChannel
  try dsimp only
  repeat' split
  all_goals simp

@[simp] theorem freezeChannel_dwellLimit (x : Side) (s : State) :
    (freezeChannel x s).dwellLimit = s.dwellLimit := by
  unfold freezeChannel
  try dsimp only
  repeat' split
  all_goals simp

@[simp] theorem freezeChannel_earlyPolicy (x : Side) (s : State) :
    (freezeChannel x s).earlyPolicy = s.earlyPolicy := by
  unfold freezeChannel
  try dsimp only
  repeat' split
  all_goals simp

@[simp] theorem freezeChannel_freeze_mode (x : Side) (s : State) :
    (freezeChannel x s).freeze.mode = s.freeze.mode := by
  unfold freezeChannel
  try dsimp only
  repeat' split
  all_goals simp

@[simp] theorem freezeChannel_freeze_active (x : Side) (s : State) :
    (freezeChannel x s).freeze.active = s.freeze.active := by
  unfold freezeChannel
  try dsimp only
  repeat' split
  all_goals simp

@[simp] theorem freezeChannel_events_mask (x : Side) (s : State) :
    (freezeChannel x s).events.mask = s.events.mask := by
  unfold freezeChannel
  try dsimp only
  repeat' split
  all_goals simp

@[simp] theorem freezeChannel_reports_sent (x : Side) (s : State) :
    (freezeChannel x s).reports.sent = s.reports.sent := by
  unfold freezeChannel
  try dsimp only
  repeat' split
  all_goals simp

@[simp] theorem freezeChannel_watch (x : Side) (s : State) :
    (freezeChannel x s).watch = s.watch := by
  unfold freezeChannel
  try dsimp only
  repeat' split
  all_goals simp

@[simp] theorem freezeChannel_drives (x : Side) (s : State) :
    (freezeChannel x s).drives = s.drives := by
  unfold freezeChannel
  try dsimp only
  repeat' split
  all_goals simp

/-! ### freezeRise: what it leaves unchanged -/

@[simp] theorem freezeRise_pending (s : State) :
    (freezeRise s).pending = s.pending := by
  unfold freezeRise
  try dsimp only
  repeat' split
  all_goals simp

@[simp] theorem freezeRise_rst (s : State) :
    (freezeRise s).rst = s.rst := by
  unfold freezeRise
  try dsimp only
  repeat' split
  all_goals simp

@[simp] theorem freezeRise_loader (s : State) :
    (freezeRise s).loader = s.loader := by
  unfold freezeRise
  try dsimp only
  repeat' split
  all_goals simp

@[simp] theorem freezeRise_link_upstream (s : State) :
    (freezeRise s).link.upstream = s.link.upstream := by
  unfold freezeRise
  try dsimp only
  repeat' split
  all_goals simp

@[simp] theorem freezeRise_link_ulwt (s : State) :
    (freezeRise s).link.ulwt = s.link.ulwt := by
  unfold freezeRise
  try dsimp only
  repeat' split
  all_goals simp

@[simp] theorem freezeRise_link_ulda (s : State) :
    (freezeRise s).link.ulda = s.link.ulda := by
  unfold freezeRise
  try dsimp only
  repeat' split
  all_goals simp

@[simp] theorem freezeRise_link_buffer (s : State) :
    (freezeRise s).link.buffer = s.link.buffer := by
  unfold freezeRise
  try dsimp only
  repeat' split
  all_goals simp

@[simp] theorem freezeRise_link_sending (s : State) :
    (freezeRise s).link.sending = s.link.sending := by
  unfold freezeRise
  try dsimp only
  repeat' split
  all_goals simp

@[simp] theorem freezeRise_link_dlda (s : State) :
    (freezeRise s).link.dlda = s.link.dlda := by
  unfold freezeRise
  try dsimp only
  repeat' split
  all_goals simp

@[simp] theorem freezeRise_windows (s : State) :
    (freezeRise s).windows = s.windows := by
  unfold freezeRise
  try dsimp only
  repeat' split
  all_goals simp

@[simp] theorem freezeRise_shadow (s : State) :
    (freezeRise s).shadow = s.shadow := by
  unfold freezeRise
  try dsimp only
  repeat' split
  all_goals simp

@[simp] theorem freezeRise_gates (s : State) :
    (freezeRise s).gates = s.gates := by
  unfold freezeRise
  try dsimp only
  repeat' split
  all_goals simp

@[simp] theorem freezeRise_engine_unit (s : State) :
    (freezeRise s).engine.unit = s.engine.unit := by
  unfold freezeRise
  try dsimp only
  repeat' split
  all_goals simp

@[simp] theorem freezeRise_engine_lastServed (s : State) :
    (freezeRise s).engine.lastServed = s.engine.lastServed := by
  unfold freezeRise
  try dsimp only
  repeat' split
  all_goals simp

@[simp] theorem freezeRise_thermal (s : State) :
    (freezeRise s).thermal = s.thermal := by
  unfold freezeRise
  try dsimp only
  repeat' split
  all_goals simp

@[simp] theorem freezeRise_framer_slot (s : State) :
    (freezeRise s).framer.slot = s.framer.slot := by
  unfold freezeRise
  try dsimp only
  repeat' split
  all_goals simp

@[simp] theorem freezeRise_framer_baseMap (s : State) :
    (freezeRise s).framer.baseMap = s.framer.baseMap := by
  unfold freezeRise
  try dsimp only
  repeat' split
  all_goals simp

@[simp] theorem freezeRise_framer_effectiveMap (s : State) :
    (freezeRise s).framer.effectiveMap = s.framer.effectiveMap := by
  unfold freezeRise
  try dsimp only
  repeat' split
  all_goals simp

@[simp] theorem freezeRise_framer_level (s : State) :
    (freezeRise s).framer.level = s.framer.level := by
  unfold freezeRise
  try dsimp only
  repeat' split
  all_goals simp

@[simp] theorem freezeRise_framer_head (s : State) :
    (freezeRise s).framer.head = s.framer.head := by
  unfold freezeRise
  try dsimp only
  repeat' split
  all_goals simp

@[simp] theorem freezeRise_framer_lbda (s : State) :
    (freezeRise s).framer.lbda = s.framer.lbda := by
  unfold freezeRise
  try dsimp only
  repeat' split
  all_goals simp

@[simp] theorem freezeRise_framer_lbds (s : State) :
    (freezeRise s).framer.lbds = s.framer.lbds := by
  unfold freezeRise
  try dsimp only
  repeat' split
  all_goals simp

@[simp] theorem freezeRise_budget (s : State) :
    (freezeRise s).budget = s.budget := by
  unfold freezeRise
  try dsimp only
  repeat' split
  all_goals simp

@[simp] theorem freezeRise_dwellLimit (s : State) :
    (freezeRise s).dwellLimit = s.dwellLimit := by
  unfold freezeRise
  try dsimp only
  repeat' split
  all_goals simp

@[simp] theorem freezeRise_earlyPolicy (s : State) :
    (freezeRise s).earlyPolicy = s.earlyPolicy := by
  unfold freezeRise
  try dsimp only
  repeat' split
  all_goals simp

@[simp] theorem freezeRise_freeze_mode (s : State) :
    (freezeRise s).freeze.mode = s.freeze.mode := by
  unfold freezeRise
  try dsimp only
  repeat' split
  all_goals simp

@[simp] theorem freezeRise_events_mask (s : State) :
    (freezeRise s).events.mask = s.events.mask := by
  unfold freezeRise
  try dsimp only
  repeat' split
  all_goals simp

@[simp] theorem freezeRise_reports_sent (s : State) :
    (freezeRise s).reports.sent = s.reports.sent := by
  unfold freezeRise
  try dsimp only
  repeat' split
  all_goals simp

@[simp] theorem freezeRise_watch (s : State) :
    (freezeRise s).watch = s.watch := by
  unfold freezeRise
  try dsimp only
  repeat' split
  all_goals simp

@[simp] theorem freezeRise_drives (s : State) :
    (freezeRise s).drives = s.drives := by
  unfold freezeRise
  try dsimp only
  repeat' split
  all_goals simp

/-! ### releaseFrozen: what it leaves unchanged -/

@[simp] theorem releaseFrozen_pending (x : Side) (s : State) :
    (releaseFrozen x s).pending = s.pending := by
  unfold releaseFrozen
  try dsimp only
  repeat' split
  all_goals simp

@[simp] theorem releaseFrozen_rst (x : Side) (s : State) :
    (releaseFrozen x s).rst = s.rst := by
  unfold releaseFrozen
  try dsimp only
  repeat' split
  all_goals simp

@[simp] theorem releaseFrozen_loader (x : Side) (s : State) :
    (releaseFrozen x s).loader = s.loader := by
  unfold releaseFrozen
  try dsimp only
  repeat' split
  all_goals simp

@[simp] theorem releaseFrozen_link (x : Side) (s : State) :
    (releaseFrozen x s).link = s.link := by
  unfold releaseFrozen
  try dsimp only
  repeat' split
  all_goals simp

@[simp] theorem releaseFrozen_windows (x : Side) (s : State) :
    (releaseFrozen x s).windows = s.windows := by
  unfold releaseFrozen
  try dsimp only
  repeat' split
  all_goals simp

@[simp] theorem releaseFrozen_shadow (x : Side) (s : State) :
    (releaseFrozen x s).shadow = s.shadow := by
  unfold releaseFrozen
  try dsimp only
  repeat' split
  all_goals simp

@[simp] theorem releaseFrozen_held (x : Side) (s : State) :
    (releaseFrozen x s).held = s.held := by
  unfold releaseFrozen
  try dsimp only
  repeat' split
  all_goals simp

@[simp] theorem releaseFrozen_heads (x : Side) (s : State) :
    (releaseFrozen x s).heads = s.heads := by
  unfold releaseFrozen
  try dsimp only
  repeat' split
  all_goals simp

@[simp] theorem releaseFrozen_gates (x : Side) (s : State) :
    (releaseFrozen x s).gates = s.gates := by
  unfold releaseFrozen
  try dsimp only
  repeat' split
  all_goals simp

@[simp] theorem releaseFrozen_engine (x : Side) (s : State) :
    (releaseFrozen x s).engine = s.engine := by
  unfold releaseFrozen
  try dsimp only
  repeat' split
  all_goals simp

@[simp] theorem releaseFrozen_thermal (x : Side) (s : State) :
    (releaseFrozen x s).thermal = s.thermal := by
  unfold releaseFrozen
  try dsimp only
  repeat' split
  all_goals simp

@[simp] theorem releaseFrozen_framer (x : Side) (s : State) :
    (releaseFrozen x s).framer = s.framer := by
  unfold releaseFrozen
  try dsimp only
  repeat' split
  all_goals simp

@[simp] theorem releaseFrozen_budget (x : Side) (s : State) :
    (releaseFrozen x s).budget = s.budget := by
  unfold releaseFrozen
  try dsimp only
  repeat' split
  all_goals simp

@[simp] theorem releaseFrozen_dwellLimit (x : Side) (s : State) :
    (releaseFrozen x s).dwellLimit = s.dwellLimit := by
  unfold releaseFrozen
  try dsimp only
  repeat' split
  all_goals simp

@[simp] theorem releaseFrozen_earlyPolicy (x : Side) (s : State) :
    (releaseFrozen x s).earlyPolicy = s.earlyPolicy := by
  unfold releaseFrozen
  try dsimp only
  repeat' split
  all_goals simp

@[simp] theorem releaseFrozen_freeze_mode (x : Side) (s : State) :
    (releaseFrozen x s).freeze.mode = s.freeze.mode := by
  unfold releaseFrozen
  try dsimp only
  repeat' split
  all_goals simp

@[simp] theorem releaseFrozen_freeze_active (x : Side) (s : State) :
    (releaseFrozen x s).freeze.active = s.freeze.active := by
  unfold releaseFrozen
  try dsimp only
  repeat' split
  all_goals simp

@[simp] theorem releaseFrozen_events_mask (x : Side) (s : State) :
    (releaseFrozen x s).events.mask = s.events.mask := by
  unfold releaseFrozen
  try dsimp only
  repeat' split
  all_goals simp

@[simp] theorem releaseFrozen_reports_sent (x : Side) (s : State) :
    (releaseFrozen x s).reports.sent = s.reports.sent := by
  unfold releaseFrozen
  try dsimp only
  repeat' split
  all_goals simp

@[simp] theorem releaseFrozen_watch (x : Side) (s : State) :
    (releaseFrozen x s).watch = s.watch := by
  unfold releaseFrozen
  try dsimp only
  repeat' split
  all_goals simp

@[simp] theorem releaseFrozen_drives (x : Side) (s : State) :
    (releaseFrozen x s).drives = s.drives := by
  unfold releaseFrozen
  try dsimp only
  repeat' split
  all_goals simp

/-! ### thawChannel: what it leaves unchanged -/

@[simp] theorem thawChannel_pending (x : Side) (s : State) :
    (thawChannel x s).pending = s.pending := by
  unfold thawChannel
  try dsimp only
  repeat' split
  all_goals simp

@[simp] theorem thawChannel_rst (x : Side) (s : State) :
    (thawChannel x s).rst = s.rst := by
  unfold thawChannel
  try dsimp only
  repeat' split
  all_goals simp

@[simp] theorem thawChannel_loader (x : Side) (s : State) :
    (thawChannel x s).loader = s.loader := by
  unfold thawChannel
  try dsimp only
  repeat' split
  all_goals simp

@[simp] theorem thawChannel_link (x : Side) (s : State) :
    (thawChannel x s).link = s.link := by
  unfold thawChannel
  try dsimp only
  repeat' split
  all_goals simp

@[simp] theorem thawChannel_windows (x : Side) (s : State) :
    (thawChannel x s).windows = s.windows := by
  unfold thawChannel
  try dsimp only
  repeat' split
  all_goals simp

@[simp] theorem thawChannel_shadow (x : Side) (s : State) :
    (thawChannel x s).shadow = s.shadow := by
  unfold thawChannel
  try dsimp only
  repeat' split
  all_goals simp

@[simp] theorem thawChannel_held (x : Side) (s : State) :
    (thawChannel x s).held = s.held := by
  unfold thawChannel
  try dsimp only
  repeat' split
  all_goals simp

@[simp] theorem thawChannel_heads (x : Side) (s : State) :
    (thawChannel x s).heads = s.heads := by
  unfold thawChannel
  try dsimp only
  repeat' split
  all_goals simp

@[simp] theorem thawChannel_gates (x : Side) (s : State) :
    (thawChannel x s).gates = s.gates := by
  unfold thawChannel
  try dsimp only
  repeat' split
  all_goals simp

@[simp] theorem thawChannel_engine (x : Side) (s : State) :
    (thawChannel x s).engine = s.engine := by
  unfold thawChannel
  try dsimp only
  repeat' split
  all_goals simp

@[simp] theorem thawChannel_thermal (x : Side) (s : State) :
    (thawChannel x s).thermal = s.thermal := by
  unfold thawChannel
  try dsimp only
  repeat' split
  all_goals simp

@[simp] theorem thawChannel_framer (x : Side) (s : State) :
    (thawChannel x s).framer = s.framer := by
  unfold thawChannel
  try dsimp only
  repeat' split
  all_goals simp

@[simp] theorem thawChannel_budget (x : Side) (s : State) :
    (thawChannel x s).budget = s.budget := by
  unfold thawChannel
  try dsimp only
  repeat' split
  all_goals simp

@[simp] theorem thawChannel_dwellLimit (x : Side) (s : State) :
    (thawChannel x s).dwellLimit = s.dwellLimit := by
  unfold thawChannel
  try dsimp only
  repeat' split
  all_goals simp

@[simp] theorem thawChannel_earlyPolicy (x : Side) (s : State) :
    (thawChannel x s).earlyPolicy = s.earlyPolicy := by
  unfold thawChannel
  try dsimp only
  repeat' split
  all_goals simp

@[simp] theorem thawChannel_freeze_mode (x : Side) (s : State) :
    (thawChannel x s).freeze.mode = s.freeze.mode := by
  unfold thawChannel
  try dsimp only
  repeat' split
  all_goals simp

@[simp] theorem thawChannel_freeze_active (x : Side) (s : State) :
    (thawChannel x s).freeze.active = s.freeze.active := by
  unfold thawChannel
  try dsimp only
  repeat' split
  all_goals simp

@[simp] theorem thawChannel_events_mask (x : Side) (s : State) :
    (thawChannel x s).events.mask = s.events.mask := by
  unfold thawChannel
  try dsimp only
  repeat' split
  all_goals simp

@[simp] theorem thawChannel_reports_sent (x : Side) (s : State) :
    (thawChannel x s).reports.sent = s.reports.sent := by
  unfold thawChannel
  try dsimp only
  repeat' split
  all_goals simp

@[simp] theorem thawChannel_watch (x : Side) (s : State) :
    (thawChannel x s).watch = s.watch := by
  unfold thawChannel
  try dsimp only
  repeat' split
  all_goals simp

@[simp] theorem thawChannel_drives (x : Side) (s : State) :
    (thawChannel x s).drives = s.drives := by
  unfold thawChannel
  try dsimp only
  repeat' split
  all_goals simp

/-! ### freezeFall: what it leaves unchanged -/

@[simp] theorem freezeFall_pending (s : State) :
    (freezeFall s).pending = s.pending := by
  unfold freezeFall
  try dsimp only
  repeat' split
  all_goals simp

@[simp] theorem freezeFall_rst (s : State) :
    (freezeFall s).rst = s.rst := by
  unfold freezeFall
  try dsimp only
  repeat' split
  all_goals simp

@[simp] theorem freezeFall_loader (s : State) :
    (freezeFall s).loader = s.loader := by
  unfold freezeFall
  try dsimp only
  repeat' split
  all_goals simp

@[simp] theorem freezeFall_link (s : State) :
    (freezeFall s).link = s.link := by
  unfold freezeFall
  try dsimp only
  repeat' split
  all_goals simp

@[simp] theorem freezeFall_windows (s : State) :
    (freezeFall s).windows = s.windows := by
  unfold freezeFall
  try dsimp only
  repeat' split
  all_goals simp

@[simp] theorem freezeFall_shadow (s : State) :
    (freezeFall s).shadow = s.shadow := by
  unfold freezeFall
  try dsimp only
  repeat' split
  all_goals simp

@[simp] theorem freezeFall_held (s : State) :
    (freezeFall s).held = s.held := by
  unfold freezeFall
  try dsimp only
  repeat' split
  all_goals simp

@[simp] theorem freezeFall_heads (s : State) :
    (freezeFall s).heads = s.heads := by
  unfold freezeFall
  try dsimp only
  repeat' split
  all_goals simp

@[simp] theorem freezeFall_gates (s : State) :
    (freezeFall s).gates = s.gates := by
  unfold freezeFall
  try dsimp only
  repeat' split
  all_goals simp

@[simp] theorem freezeFall_engine (s : State) :
    (freezeFall s).engine = s.engine := by
  unfold freezeFall
  try dsimp only
  repeat' split
  all_goals simp

@[simp] theorem freezeFall_thermal (s : State) :
    (freezeFall s).thermal = s.thermal := by
  unfold freezeFall
  try dsimp only
  repeat' split
  all_goals simp

@[simp] theorem freezeFall_framer (s : State) :
    (freezeFall s).framer = s.framer := by
  unfold freezeFall
  try dsimp only
  repeat' split
  all_goals simp

@[simp] theorem freezeFall_budget (s : State) :
    (freezeFall s).budget = s.budget := by
  unfold freezeFall
  try dsimp only
  repeat' split
  all_goals simp

@[simp] theorem freezeFall_dwellLimit (s : State) :
    (freezeFall s).dwellLimit = s.dwellLimit := by
  unfold freezeFall
  try dsimp only
  repeat' split
  all_goals simp

@[simp] theorem freezeFall_earlyPolicy (s : State) :
    (freezeFall s).earlyPolicy = s.earlyPolicy := by
  unfold freezeFall
  try dsimp only
  repeat' split
  all_goals simp

@[simp] theorem freezeFall_freeze_mode (s : State) :
    (freezeFall s).freeze.mode = s.freeze.mode := by
  unfold freezeFall
  try dsimp only
  repeat' split
  all_goals simp

@[simp] theorem freezeFall_events_mask (s : State) :
    (freezeFall s).events.mask = s.events.mask := by
  unfold freezeFall
  try dsimp only
  repeat' split
  all_goals simp

@[simp] theorem freezeFall_reports_sent (s : State) :
    (freezeFall s).reports.sent = s.reports.sent := by
  unfold freezeFall
  try dsimp only
  repeat' split
  all_goals simp

@[simp] theorem freezeFall_watch (s : State) :
    (freezeFall s).watch = s.watch := by
  unfold freezeFall
  try dsimp only
  repeat' split
  all_goals simp

@[simp] theorem freezeFall_drives (s : State) :
    (freezeFall s).drives = s.drives := by
  unfold freezeFall
  try dsimp only
  repeat' split
  all_goals simp

end Sys2Proof.Machine
end

