-- ==== Sys2Proof/Laws/WordFrames.lean ====
section
/-!
SUPPORT. The frame of every operation of the capture map (Machine/CaptureMap.lean): one simp lemma for each part of
the state that the processing of a word never changes.
-/

namespace Sys2Proof.Machine

/-! ### leaveByControl: what it leaves unchanged -/

@[simp] theorem leaveByControl_pending (x : Side) (o : EpisodeOutcome) (s : State) :
    (leaveByControl x o s).pending = s.pending := by
  unfold leaveByControl
  try dsimp only
  repeat' split
  all_goals simp

@[simp] theorem leaveByControl_rst (x : Side) (o : EpisodeOutcome) (s : State) :
    (leaveByControl x o s).rst = s.rst := by
  unfold leaveByControl
  try dsimp only
  repeat' split
  all_goals simp

@[simp] theorem leaveByControl_loader (x : Side) (o : EpisodeOutcome) (s : State) :
    (leaveByControl x o s).loader = s.loader := by
  unfold leaveByControl
  try dsimp only
  repeat' split
  all_goals simp

@[simp] theorem leaveByControl_link_upstream (x : Side) (o : EpisodeOutcome) (s : State) :
    (leaveByControl x o s).link.upstream = s.link.upstream := by
  unfold leaveByControl
  try dsimp only
  repeat' split
  all_goals simp

@[simp] theorem leaveByControl_link_ulwt (x : Side) (o : EpisodeOutcome) (s : State) :
    (leaveByControl x o s).link.ulwt = s.link.ulwt := by
  unfold leaveByControl
  try dsimp only
  repeat' split
  all_goals simp

@[simp] theorem leaveByControl_link_ulda (x : Side) (o : EpisodeOutcome) (s : State) :
    (leaveByControl x o s).link.ulda = s.link.ulda := by
  unfold leaveByControl
  try dsimp only
  repeat' split
  all_goals simp

@[simp] theorem leaveByControl_link_buffer (x : Side) (o : EpisodeOutcome) (s : State) :
    (leaveByControl x o s).link.buffer = s.link.buffer := by
  unfold leaveByControl
  try dsimp only
  repeat' split
  all_goals simp

@[simp] theorem leaveByControl_link_sending (x : Side) (o : EpisodeOutcome) (s : State) :
    (leaveByControl x o s).link.sending = s.link.sending := by
  unfold leaveByControl
  try dsimp only
  repeat' split
  all_goals simp

@[simp] theorem leaveByControl_link_dlda (x : Side) (o : EpisodeOutcome) (s : State) :
    (leaveByControl x o s).link.dlda = s.link.dlda := by
  unfold leaveByControl
  try dsimp only
  repeat' split
  all_goals simp

@[simp] theorem leaveByControl_windows (x : Side) (o : EpisodeOutcome) (s : State) :
    (leaveByControl x o s).windows = s.windows := by
  unfold leaveByControl
  try dsimp only
  repeat' split
  all_goals simp

@[simp] theorem leaveByControl_shadow (x : Side) (o : EpisodeOutcome) (s : State) :
    (leaveByControl x o s).shadow = s.shadow := by
  unfold leaveByControl
  try dsimp only
  repeat' split
  all_goals simp

@[simp] theorem leaveByControl_gates (x : Side) (o : EpisodeOutcome) (s : State) :
    (leaveByControl x o s).gates = s.gates := by
  unfold leaveByControl
  try dsimp only
  repeat' split
  all_goals simp

@[simp] theorem leaveByControl_engine_unit (x : Side) (o : EpisodeOutcome) (s : State) :
    (leaveByControl x o s).engine.unit = s.engine.unit := by
  unfold leaveByControl
  try dsimp only
  repeat' split
  all_goals simp

@[simp] theorem leaveByControl_engine_lastServed (x : Side) (o : EpisodeOutcome) (s : State) :
    (leaveByControl x o s).engine.lastServed = s.engine.lastServed := by
  unfold leaveByControl
  try dsimp only
  repeat' split
  all_goals simp

@[simp] theorem leaveByControl_thermal (x : Side) (o : EpisodeOutcome) (s : State) :
    (leaveByControl x o s).thermal = s.thermal := by
  unfold leaveByControl
  try dsimp only
  repeat' split
  all_goals simp

@[simp] theorem leaveByControl_framer_slot (x : Side) (o : EpisodeOutcome) (s : State) :
    (leaveByControl x o s).framer.slot = s.framer.slot := by
  unfold leaveByControl
  try dsimp only
  repeat' split
  all_goals simp

@[simp] theorem leaveByControl_framer_baseMap (x : Side) (o : EpisodeOutcome) (s : State) :
    (leaveByControl x o s).framer.baseMap = s.framer.baseMap := by
  unfold leaveByControl
  try dsimp only
  repeat' split
  all_goals simp

@[simp] theorem leaveByControl_framer_effectiveMap (x : Side) (o : EpisodeOutcome) (s : State) :
    (leaveByControl x o s).framer.effectiveMap = s.framer.effectiveMap := by
  unfold leaveByControl
  try dsimp only
  repeat' split
  all_goals simp

@[simp] theorem leaveByControl_framer_level (x : Side) (o : EpisodeOutcome) (s : State) :
    (leaveByControl x o s).framer.level = s.framer.level := by
  unfold leaveByControl
  try dsimp only
  repeat' split
  all_goals simp

@[simp] theorem leaveByControl_framer_head (x : Side) (o : EpisodeOutcome) (s : State) :
    (leaveByControl x o s).framer.head = s.framer.head := by
  unfold leaveByControl
  try dsimp only
  repeat' split
  all_goals simp

@[simp] theorem leaveByControl_framer_lbda (x : Side) (o : EpisodeOutcome) (s : State) :
    (leaveByControl x o s).framer.lbda = s.framer.lbda := by
  unfold leaveByControl
  try dsimp only
  repeat' split
  all_goals simp

@[simp] theorem leaveByControl_framer_lbds (x : Side) (o : EpisodeOutcome) (s : State) :
    (leaveByControl x o s).framer.lbds = s.framer.lbds := by
  unfold leaveByControl
  try dsimp only
  repeat' split
  all_goals simp

@[simp] theorem leaveByControl_budget (x : Side) (o : EpisodeOutcome) (s : State) :
    (leaveByControl x o s).budget = s.budget := by
  unfold leaveByControl
  try dsimp only
  repeat' split
  all_goals simp

@[simp] theorem leaveByControl_dwellLimit (x : Side) (o : EpisodeOutcome) (s : State) :
    (leaveByControl x o s).dwellLimit = s.dwellLimit := by
  unfold leaveByControl
  try dsimp only
  repeat' split
  all_goals simp

@[simp] theorem leaveByControl_earlyPolicy (x : Side) (o : EpisodeOutcome) (s : State) :
    (leaveByControl x o s).earlyPolicy = s.earlyPolicy := by
  unfold leaveByControl
  try dsimp only
  repeat' split
  all_goals simp

@[simp] theorem leaveByControl_freeze_mode (x : Side) (o : EpisodeOutcome) (s : State) :
    (leaveByControl x o s).freeze.mode = s.freeze.mode := by
  unfold leaveByControl
  try dsimp only
  repeat' split
  all_goals simp

@[simp] theorem leaveByControl_freeze_active (x : Side) (o : EpisodeOutcome) (s : State) :
    (leaveByControl x o s).freeze.active = s.freeze.active := by
  unfold leaveByControl
  try dsimp only
  repeat' split
  all_goals simp

@[simp] theorem leaveByControl_events_mask (x : Side) (o : EpisodeOutcome) (s : State) :
    (leaveByControl x o s).events.mask = s.events.mask := by
  unfold leaveByControl
  try dsimp only
  repeat' split
  all_goals simp

@[simp] theorem leaveByControl_reports_sent (x : Side) (o : EpisodeOutcome) (s : State) :
    (leaveByControl x o s).reports.sent = s.reports.sent := by
  unfold leaveByControl
  try dsimp only
  repeat' split
  all_goals simp

@[simp] theorem leaveByControl_watch (x : Side) (o : EpisodeOutcome) (s : State) :
    (leaveByControl x o s).watch = s.watch := by
  unfold leaveByControl
  try dsimp only
  repeat' split
  all_goals simp

@[simp] theorem leaveByControl_drives (x : Side) (o : EpisodeOutcome) (s : State) :
    (leaveByControl x o s).drives = s.drives := by
  unfold leaveByControl
  try dsimp only
  repeat' split
  all_goals simp

/-! ### leaveByHeadChange: what it leaves unchanged -/

@[simp] theorem leaveByHeadChange_pending (x : Side) (s : State) :
    (leaveByHeadChange x s).pending = s.pending := by
  unfold leaveByHeadChange
  try dsimp only
  repeat' split
  all_goals simp

@[simp] theorem leaveByHeadChange_rst (x : Side) (s : State) :
    (leaveByHeadChange x s).rst = s.rst := by
  unfold leaveByHeadChange
  try dsimp only
  repeat' split
  all_goals simp

@[simp] theorem leaveByHeadChange_loader (x : Side) (s : State) :
    (leaveByHeadChange x s).loader = s.loader := by
  unfold leaveByHeadChange
  try dsimp only
  repeat' split
  all_goals simp

@[simp] theorem leaveByHeadChange_link_upstream (x : Side) (s : State) :
    (leaveByHeadChange x s).link.upstream = s.link.upstream := by
  unfold leaveByHeadChange
  try dsimp only
  repeat' split
  all_goals simp

@[simp] theorem leaveByHeadChange_link_ulwt (x : Side) (s : State) :
    (leaveByHeadChange x s).link.ulwt = s.link.ulwt := by
  unfold leaveByHeadChange
  try dsimp only
  repeat' split
  all_goals simp

@[simp] theorem leaveByHeadChange_link_ulda (x : Side) (s : State) :
    (leaveByHeadChange x s).link.ulda = s.link.ulda := by
  unfold leaveByHeadChange
  try dsimp only
  repeat' split
  all_goals simp

@[simp] theorem leaveByHeadChange_link_buffer (x : Side) (s : State) :
    (leaveByHeadChange x s).link.buffer = s.link.buffer := by
  unfold leaveByHeadChange
  try dsimp only
  repeat' split
  all_goals simp

@[simp] theorem leaveByHeadChange_link_sending (x : Side) (s : State) :
    (leaveByHeadChange x s).link.sending = s.link.sending := by
  unfold leaveByHeadChange
  try dsimp only
  repeat' split
  all_goals simp

@[simp] theorem leaveByHeadChange_link_dlda (x : Side) (s : State) :
    (leaveByHeadChange x s).link.dlda = s.link.dlda := by
  unfold leaveByHeadChange
  try dsimp only
  repeat' split
  all_goals simp

@[simp] theorem leaveByHeadChange_windows (x : Side) (s : State) :
    (leaveByHeadChange x s).windows = s.windows := by
  unfold leaveByHeadChange
  try dsimp only
  repeat' split
  all_goals simp

@[simp] theorem leaveByHeadChange_shadow (x : Side) (s : State) :
    (leaveByHeadChange x s).shadow = s.shadow := by
  unfold leaveByHeadChange
  try dsimp only
  repeat' split
  all_goals simp

@[simp] theorem leaveByHeadChange_gates (x : Side) (s : State) :
    (leaveByHeadChange x s).gates = s.gates := by
  unfold leaveByHeadChange
  try dsimp only
  repeat' split
  all_goals simp

@[simp] theorem leaveByHeadChange_engine_unit (x : Side) (s : State) :
    (leaveByHeadChange x s).engine.unit = s.engine.unit := by
  unfold leaveByHeadChange
  try dsimp only
  repeat' split
  all_goals simp

@[simp] theorem leaveByHeadChange_engine_lastServed (x : Side) (s : State) :
    (leaveByHeadChange x s).engine.lastServed = s.engine.lastServed := by
  unfold leaveByHeadChange
  try dsimp only
  repeat' split
  all_goals simp

@[simp] theorem leaveByHeadChange_thermal (x : Side) (s : State) :
    (leaveByHeadChange x s).thermal = s.thermal := by
  unfold leaveByHeadChange
  try dsimp only
  repeat' split
  all_goals simp

@[simp] theorem leaveByHeadChange_framer_slot (x : Side) (s : State) :
    (leaveByHeadChange x s).framer.slot = s.framer.slot := by
  unfold leaveByHeadChange
  try dsimp only
  repeat' split
  all_goals simp

@[simp] theorem leaveByHeadChange_framer_baseMap (x : Side) (s : State) :
    (leaveByHeadChange x s).framer.baseMap = s.framer.baseMap := by
  unfold leaveByHeadChange
  try dsimp only
  repeat' split
  all_goals simp

@[simp] theorem leaveByHeadChange_framer_effectiveMap (x : Side) (s : State) :
    (leaveByHeadChange x s).framer.effectiveMap = s.framer.effectiveMap := by
  unfold leaveByHeadChange
  try dsimp only
  repeat' split
  all_goals simp

@[simp] theorem leaveByHeadChange_framer_level (x : Side) (s : State) :
    (leaveByHeadChange x s).framer.level = s.framer.level := by
  unfold leaveByHeadChange
  try dsimp only
  repeat' split
  all_goals simp

@[simp] theorem leaveByHeadChange_framer_head (x : Side) (s : State) :
    (leaveByHeadChange x s).framer.head = s.framer.head := by
  unfold leaveByHeadChange
  try dsimp only
  repeat' split
  all_goals simp

@[simp] theorem leaveByHeadChange_framer_lbda (x : Side) (s : State) :
    (leaveByHeadChange x s).framer.lbda = s.framer.lbda := by
  unfold leaveByHeadChange
  try dsimp only
  repeat' split
  all_goals simp

@[simp] theorem leaveByHeadChange_framer_lbds (x : Side) (s : State) :
    (leaveByHeadChange x s).framer.lbds = s.framer.lbds := by
  unfold leaveByHeadChange
  try dsimp only
  repeat' split
  all_goals simp

@[simp] theorem leaveByHeadChange_budget (x : Side) (s : State) :
    (leaveByHeadChange x s).budget = s.budget := by
  unfold leaveByHeadChange
  try dsimp only
  repeat' split
  all_goals simp

@[simp] theorem leaveByHeadChange_dwellLimit (x : Side) (s : State) :
    (leaveByHeadChange x s).dwellLimit = s.dwellLimit := by
  unfold leaveByHeadChange
  try dsimp only
  repeat' split
  all_goals simp

@[simp] theorem leaveByHeadChange_earlyPolicy (x : Side) (s : State) :
    (leaveByHeadChange x s).earlyPolicy = s.earlyPolicy := by
  unfold leaveByHeadChange
  try dsimp only
  repeat' split
  all_goals simp

@[simp] theorem leaveByHeadChange_freeze_mode (x : Side) (s : State) :
    (leaveByHeadChange x s).freeze.mode = s.freeze.mode := by
  unfold leaveByHeadChange
  try dsimp only
  repeat' split
  all_goals simp

@[simp] theorem leaveByHeadChange_freeze_active (x : Side) (s : State) :
    (leaveByHeadChange x s).freeze.active = s.freeze.active := by
  unfold leaveByHeadChange
  try dsimp only
  repeat' split
  all_goals simp

@[simp] theorem leaveByHeadChange_events_mask (x : Side) (s : State) :
    (leaveByHeadChange x s).events.mask = s.events.mask := by
  unfold leaveByHeadChange
  try dsimp only
  repeat' split
  all_goals simp

@[simp] theorem leaveByHeadChange_reports_sent (x : Side) (s : State) :
    (leaveByHeadChange x s).reports.sent = s.reports.sent := by
  unfold leaveByHeadChange
  try dsimp only
  repeat' split
  all_goals simp

@[simp] theorem leaveByHeadChange_watch (x : Side) (s : State) :
    (leaveByHeadChange x s).watch = s.watch := by
  unfold leaveByHeadChange
  try dsimp only
  repeat' split
  all_goals simp

@[simp] theorem leaveByHeadChange_drives (x : Side) (s : State) :
    (leaveByHeadChange x s).drives = s.drives := by
  unfold leaveByHeadChange
  try dsimp only
  repeat' split
  all_goals simp

/-! ### disarmEpisode: what it leaves unchanged -/

@[simp] theorem disarmEpisode_pending (x : Side) (s : State) :
    (disarmEpisode x s).pending = s.pending := by
  unfold disarmEpisode
  try dsimp only
  repeat' split
  all_goals simp

@[simp] theorem disarmEpisode_rst (x : Side) (s : State) :
    (disarmEpisode x s).rst = s.rst := by
  unfold disarmEpisode
  try dsimp only
  repeat' split
  all_goals simp

@[simp] theorem disarmEpisode_loader (x : Side) (s : State) :
    (disarmEpisode x s).loader = s.loader := by
  unfold disarmEpisode
  try dsimp only
  repeat' split
  all_goals simp

@[simp] theorem disarmEpisode_link_upstream (x : Side) (s : State) :
    (disarmEpisode x s).link.upstream = s.link.upstream := by
  unfold disarmEpisode
  try dsimp only
  repeat' split
  all_goals simp

@[simp] theorem disarmEpisode_link_ulwt (x : Side) (s : State) :
    (disarmEpisode x s).link.ulwt = s.link.ulwt := by
  unfold disarmEpisode
  try dsimp only
  repeat' split
  all_goals simp

@[simp] theorem disarmEpisode_link_ulda (x : Side) (s : State) :
    (disarmEpisode x s).link.ulda = s.link.ulda := by
  unfold disarmEpisode
  try dsimp only
  repeat' split
  all_goals simp

@[simp] theorem disarmEpisode_link_buffer (x : Side) (s : State) :
    (disarmEpisode x s).link.buffer = s.link.buffer := by
  unfold disarmEpisode
  try dsimp only
  repeat' split
  all_goals simp

@[simp] theorem disarmEpisode_link_sending (x : Side) (s : State) :
    (disarmEpisode x s).link.sending = s.link.sending := by
  unfold disarmEpisode
  try dsimp only
  repeat' split
  all_goals simp

@[simp] theorem disarmEpisode_link_dlda (x : Side) (s : State) :
    (disarmEpisode x s).link.dlda = s.link.dlda := by
  unfold disarmEpisode
  try dsimp only
  repeat' split
  all_goals simp

@[simp] theorem disarmEpisode_windows (x : Side) (s : State) :
    (disarmEpisode x s).windows = s.windows := by
  unfold disarmEpisode
  try dsimp only
  repeat' split
  all_goals simp

@[simp] theorem disarmEpisode_shadow (x : Side) (s : State) :
    (disarmEpisode x s).shadow = s.shadow := by
  unfold disarmEpisode
  try dsimp only
  repeat' split
  all_goals simp

@[simp] theorem disarmEpisode_gates (x : Side) (s : State) :
    (disarmEpisode x s).gates = s.gates := by
  unfold disarmEpisode
  try dsimp only
  repeat' split
  all_goals simp

@[simp] theorem disarmEpisode_engine_unit (x : Side) (s : State) :
    (disarmEpisode x s).engine.unit = s.engine.unit := by
  unfold disarmEpisode
  try dsimp only
  repeat' split
  all_goals simp

@[simp] theorem disarmEpisode_engine_lastServed (x : Side) (s : State) :
    (disarmEpisode x s).engine.lastServed = s.engine.lastServed := by
  unfold disarmEpisode
  try dsimp only
  repeat' split
  all_goals simp

@[simp] theorem disarmEpisode_thermal (x : Side) (s : State) :
    (disarmEpisode x s).thermal = s.thermal := by
  unfold disarmEpisode
  try dsimp only
  repeat' split
  all_goals simp

@[simp] theorem disarmEpisode_framer_slot (x : Side) (s : State) :
    (disarmEpisode x s).framer.slot = s.framer.slot := by
  unfold disarmEpisode
  try dsimp only
  repeat' split
  all_goals simp

@[simp] theorem disarmEpisode_framer_baseMap (x : Side) (s : State) :
    (disarmEpisode x s).framer.baseMap = s.framer.baseMap := by
  unfold disarmEpisode
  try dsimp only
  repeat' split
  all_goals simp

@[simp] theorem disarmEpisode_framer_effectiveMap (x : Side) (s : State) :
    (disarmEpisode x s).framer.effectiveMap = s.framer.effectiveMap := by
  unfold disarmEpisode
  try dsimp only
  repeat' split
  all_goals simp

@[simp] theorem disarmEpisode_framer_level (x : Side) (s : State) :
    (disarmEpisode x s).framer.level = s.framer.level := by
  unfold disarmEpisode
  try dsimp only
  repeat' split
  all_goals simp

@[simp] theorem disarmEpisode_framer_head (x : Side) (s : State) :
    (disarmEpisode x s).framer.head = s.framer.head := by
  unfold disarmEpisode
  try dsimp only
  repeat' split
  all_goals simp

@[simp] theorem disarmEpisode_framer_lbda (x : Side) (s : State) :
    (disarmEpisode x s).framer.lbda = s.framer.lbda := by
  unfold disarmEpisode
  try dsimp only
  repeat' split
  all_goals simp

@[simp] theorem disarmEpisode_framer_lbds (x : Side) (s : State) :
    (disarmEpisode x s).framer.lbds = s.framer.lbds := by
  unfold disarmEpisode
  try dsimp only
  repeat' split
  all_goals simp

@[simp] theorem disarmEpisode_budget (x : Side) (s : State) :
    (disarmEpisode x s).budget = s.budget := by
  unfold disarmEpisode
  try dsimp only
  repeat' split
  all_goals simp

@[simp] theorem disarmEpisode_dwellLimit (x : Side) (s : State) :
    (disarmEpisode x s).dwellLimit = s.dwellLimit := by
  unfold disarmEpisode
  try dsimp only
  repeat' split
  all_goals simp

@[simp] theorem disarmEpisode_earlyPolicy (x : Side) (s : State) :
    (disarmEpisode x s).earlyPolicy = s.earlyPolicy := by
  unfold disarmEpisode
  try dsimp only
  repeat' split
  all_goals simp

@[simp] theorem disarmEpisode_freeze_mode (x : Side) (s : State) :
    (disarmEpisode x s).freeze.mode = s.freeze.mode := by
  unfold disarmEpisode
  try dsimp only
  repeat' split
  all_goals simp

@[simp] theorem disarmEpisode_freeze_active (x : Side) (s : State) :
    (disarmEpisode x s).freeze.active = s.freeze.active := by
  unfold disarmEpisode
  try dsimp only
  repeat' split
  all_goals simp

@[simp] theorem disarmEpisode_events_mask (x : Side) (s : State) :
    (disarmEpisode x s).events.mask = s.events.mask := by
  unfold disarmEpisode
  try dsimp only
  repeat' split
  all_goals simp

@[simp] theorem disarmEpisode_reports_sent (x : Side) (s : State) :
    (disarmEpisode x s).reports.sent = s.reports.sent := by
  unfold disarmEpisode
  try dsimp only
  repeat' split
  all_goals simp

@[simp] theorem disarmEpisode_watch (x : Side) (s : State) :
    (disarmEpisode x s).watch = s.watch := by
  unfold disarmEpisode
  try dsimp only
  repeat' split
  all_goals simp

@[simp] theorem disarmEpisode_drives (x : Side) (s : State) :
    (disarmEpisode x s).drives = s.drives := by
  unfold disarmEpisode
  try dsimp only
  repeat' split
  all_goals simp

/-! ### headChangeArm: what it leaves unchanged -/

@[simp] theorem headChangeArm_pending (x : Side) (h : Fin 16) (s : State) :
    (headChangeArm x h s).pending = s.pending := by
  unfold headChangeArm
  try dsimp only
  repeat' split
  all_goals simp

@[simp] theorem headChangeArm_rst (x : Side) (h : Fin 16) (s : State) :
    (headChangeArm x h s).rst = s.rst := by
  unfold headChangeArm
  try dsimp only
  repeat' split
  all_goals simp

@[simp] theorem headChangeArm_loader (x : Side) (h : Fin 16) (s : State) :
    (headChangeArm x h s).loader = s.loader := by
  unfold headChangeArm
  try dsimp only
  repeat' split
  all_goals simp

@[simp] theorem headChangeArm_link_upstream (x : Side) (h : Fin 16) (s : State) :
    (headChangeArm x h s).link.upstream = s.link.upstream := by
  unfold headChangeArm
  try dsimp only
  repeat' split
  all_goals simp

@[simp] theorem headChangeArm_link_ulwt (x : Side) (h : Fin 16) (s : State) :
    (headChangeArm x h s).link.ulwt = s.link.ulwt := by
  unfold headChangeArm
  try dsimp only
  repeat' split
  all_goals simp

@[simp] theorem headChangeArm_link_ulda (x : Side) (h : Fin 16) (s : State) :
    (headChangeArm x h s).link.ulda = s.link.ulda := by
  unfold headChangeArm
  try dsimp only
  repeat' split
  all_goals simp

@[simp] theorem headChangeArm_link_buffer (x : Side) (h : Fin 16) (s : State) :
    (headChangeArm x h s).link.buffer = s.link.buffer := by
  unfold headChangeArm
  try dsimp only
  repeat' split
  all_goals simp

@[simp] theorem headChangeArm_link_sending (x : Side) (h : Fin 16) (s : State) :
    (headChangeArm x h s).link.sending = s.link.sending := by
  unfold headChangeArm
  try dsimp only
  repeat' split
  all_goals simp

@[simp] theorem headChangeArm_link_dlda (x : Side) (h : Fin 16) (s : State) :
    (headChangeArm x h s).link.dlda = s.link.dlda := by
  unfold headChangeArm
  try dsimp only
  repeat' split
  all_goals simp

@[simp] theorem headChangeArm_windows (x : Side) (h : Fin 16) (s : State) :
    (headChangeArm x h s).windows = s.windows := by
  unfold headChangeArm
  try dsimp only
  repeat' split
  all_goals simp

@[simp] theorem headChangeArm_shadow (x : Side) (h : Fin 16) (s : State) :
    (headChangeArm x h s).shadow = s.shadow := by
  unfold headChangeArm
  try dsimp only
  repeat' split
  all_goals simp

@[simp] theorem headChangeArm_gates (x : Side) (h : Fin 16) (s : State) :
    (headChangeArm x h s).gates = s.gates := by
  unfold headChangeArm
  try dsimp only
  repeat' split
  all_goals simp

@[simp] theorem headChangeArm_engine_unit (x : Side) (h : Fin 16) (s : State) :
    (headChangeArm x h s).engine.unit = s.engine.unit := by
  unfold headChangeArm
  try dsimp only
  repeat' split
  all_goals simp

@[simp] theorem headChangeArm_engine_lastServed (x : Side) (h : Fin 16) (s : State) :
    (headChangeArm x h s).engine.lastServed = s.engine.lastServed := by
  unfold headChangeArm
  try dsimp only
  repeat' split
  all_goals simp

@[simp] theorem headChangeArm_thermal (x : Side) (h : Fin 16) (s : State) :
    (headChangeArm x h s).thermal = s.thermal := by
  unfold headChangeArm
  try dsimp only
  repeat' split
  all_goals simp

@[simp] theorem headChangeArm_framer_slot (x : Side) (h : Fin 16) (s : State) :
    (headChangeArm x h s).framer.slot = s.framer.slot := by
  unfold headChangeArm
  try dsimp only
  repeat' split
  all_goals simp

@[simp] theorem headChangeArm_framer_baseMap (x : Side) (h : Fin 16) (s : State) :
    (headChangeArm x h s).framer.baseMap = s.framer.baseMap := by
  unfold headChangeArm
  try dsimp only
  repeat' split
  all_goals simp

@[simp] theorem headChangeArm_framer_effectiveMap (x : Side) (h : Fin 16) (s : State) :
    (headChangeArm x h s).framer.effectiveMap = s.framer.effectiveMap := by
  unfold headChangeArm
  try dsimp only
  repeat' split
  all_goals simp

@[simp] theorem headChangeArm_framer_level (x : Side) (h : Fin 16) (s : State) :
    (headChangeArm x h s).framer.level = s.framer.level := by
  unfold headChangeArm
  try dsimp only
  repeat' split
  all_goals simp

@[simp] theorem headChangeArm_framer_head (x : Side) (h : Fin 16) (s : State) :
    (headChangeArm x h s).framer.head = s.framer.head := by
  unfold headChangeArm
  try dsimp only
  repeat' split
  all_goals simp

@[simp] theorem headChangeArm_framer_lbda (x : Side) (h : Fin 16) (s : State) :
    (headChangeArm x h s).framer.lbda = s.framer.lbda := by
  unfold headChangeArm
  try dsimp only
  repeat' split
  all_goals simp

@[simp] theorem headChangeArm_framer_lbds (x : Side) (h : Fin 16) (s : State) :
    (headChangeArm x h s).framer.lbds = s.framer.lbds := by
  unfold headChangeArm
  try dsimp only
  repeat' split
  all_goals simp

@[simp] theorem headChangeArm_budget (x : Side) (h : Fin 16) (s : State) :
    (headChangeArm x h s).budget = s.budget := by
  unfold headChangeArm
  try dsimp only
  repeat' split
  all_goals simp

@[simp] theorem headChangeArm_dwellLimit (x : Side) (h : Fin 16) (s : State) :
    (headChangeArm x h s).dwellLimit = s.dwellLimit := by
  unfold headChangeArm
  try dsimp only
  repeat' split
  all_goals simp

@[simp] theorem headChangeArm_earlyPolicy (x : Side) (h : Fin 16) (s : State) :
    (headChangeArm x h s).earlyPolicy = s.earlyPolicy := by
  unfold headChangeArm
  try dsimp only
  repeat' split
  all_goals simp

@[simp] theorem headChangeArm_freeze_mode (x : Side) (h : Fin 16) (s : State) :
    (headChangeArm x h s).freeze.mode = s.freeze.mode := by
  unfold headChangeArm
  try dsimp only
  repeat' split
  all_goals simp

@[simp] theorem headChangeArm_freeze_active (x : Side) (h : Fin 16) (s : State) :
    (headChangeArm x h s).freeze.active = s.freeze.active := by
  unfold headChangeArm
  try dsimp only
  repeat' split
  all_goals simp

@[simp] theorem headChangeArm_events_mask (x : Side) (h : Fin 16) (s : State) :
    (headChangeArm x h s).events.mask = s.events.mask := by
  unfold headChangeArm
  try dsimp only
  repeat' split
  all_goals simp

@[simp] theorem headChangeArm_reports_sent (x : Side) (h : Fin 16) (s : State) :
    (headChangeArm x h s).reports.sent = s.reports.sent := by
  unfold headChangeArm
  try dsimp only
  repeat' split
  all_goals simp

@[simp] theorem headChangeArm_watch (x : Side) (h : Fin 16) (s : State) :
    (headChangeArm x h s).watch = s.watch := by
  unfold headChangeArm
  try dsimp only
  repeat' split
  all_goals simp

@[simp] theorem headChangeArm_drives (x : Side) (h : Fin 16) (s : State) :
    (headChangeArm x h s).drives = s.drives := by
  unfold headChangeArm
  try dsimp only
  repeat' split
  all_goals simp

/-! ### deliverEffect: what it leaves unchanged -/

@[simp] theorem deliverEffect_pending (x : Side) (e : ControlEffect) (h : Fin 16) (s : State) :
    (deliverEffect x e h s).pending = s.pending := by
  unfold deliverEffect
  try dsimp only
  repeat' split
  all_goals simp

@[simp] theorem deliverEffect_rst (x : Side) (e : ControlEffect) (h : Fin 16) (s : State) :
    (deliverEffect x e h s).rst = s.rst := by
  unfold deliverEffect
  try dsimp only
  repeat' split
  all_goals simp

@[simp] theorem deliverEffect_loader (x : Side) (e : ControlEffect) (h : Fin 16) (s : State) :
    (deliverEffect x e h s).loader = s.loader := by
  unfold deliverEffect
  try dsimp only
  repeat' split
  all_goals simp

@[simp] theorem deliverEffect_link_upstream (x : Side) (e : ControlEffect) (h : Fin 16) (s : State) :
    (deliverEffect x e h s).link.upstream = s.link.upstream := by
  unfold deliverEffect
  try dsimp only
  repeat' split
  all_goals simp

@[simp] theorem deliverEffect_link_ulwt (x : Side) (e : ControlEffect) (h : Fin 16) (s : State) :
    (deliverEffect x e h s).link.ulwt = s.link.ulwt := by
  unfold deliverEffect
  try dsimp only
  repeat' split
  all_goals simp

@[simp] theorem deliverEffect_link_ulda (x : Side) (e : ControlEffect) (h : Fin 16) (s : State) :
    (deliverEffect x e h s).link.ulda = s.link.ulda := by
  unfold deliverEffect
  try dsimp only
  repeat' split
  all_goals simp

@[simp] theorem deliverEffect_link_buffer (x : Side) (e : ControlEffect) (h : Fin 16) (s : State) :
    (deliverEffect x e h s).link.buffer = s.link.buffer := by
  unfold deliverEffect
  try dsimp only
  repeat' split
  all_goals simp

@[simp] theorem deliverEffect_link_sending (x : Side) (e : ControlEffect) (h : Fin 16) (s : State) :
    (deliverEffect x e h s).link.sending = s.link.sending := by
  unfold deliverEffect
  try dsimp only
  repeat' split
  all_goals simp

@[simp] theorem deliverEffect_link_dlda (x : Side) (e : ControlEffect) (h : Fin 16) (s : State) :
    (deliverEffect x e h s).link.dlda = s.link.dlda := by
  unfold deliverEffect
  try dsimp only
  repeat' split
  all_goals simp

@[simp] theorem deliverEffect_windows (x : Side) (e : ControlEffect) (h : Fin 16) (s : State) :
    (deliverEffect x e h s).windows = s.windows := by
  unfold deliverEffect
  try dsimp only
  repeat' split
  all_goals simp

@[simp] theorem deliverEffect_shadow (x : Side) (e : ControlEffect) (h : Fin 16) (s : State) :
    (deliverEffect x e h s).shadow = s.shadow := by
  unfold deliverEffect
  try dsimp only
  repeat' split
  all_goals simp

@[simp] theorem deliverEffect_gates (x : Side) (e : ControlEffect) (h : Fin 16) (s : State) :
    (deliverEffect x e h s).gates = s.gates := by
  unfold deliverEffect
  try dsimp only
  repeat' split
  all_goals simp

@[simp] theorem deliverEffect_engine_unit (x : Side) (e : ControlEffect) (h : Fin 16) (s : State) :
    (deliverEffect x e h s).engine.unit = s.engine.unit := by
  unfold deliverEffect
  try dsimp only
  repeat' split
  all_goals simp

@[simp] theorem deliverEffect_engine_lastServed (x : Side) (e : ControlEffect) (h : Fin 16) (s : State) :
    (deliverEffect x e h s).engine.lastServed = s.engine.lastServed := by
  unfold deliverEffect
  try dsimp only
  repeat' split
  all_goals simp

@[simp] theorem deliverEffect_thermal (x : Side) (e : ControlEffect) (h : Fin 16) (s : State) :
    (deliverEffect x e h s).thermal = s.thermal := by
  unfold deliverEffect
  try dsimp only
  repeat' split
  all_goals simp

@[simp] theorem deliverEffect_framer_slot (x : Side) (e : ControlEffect) (h : Fin 16) (s : State) :
    (deliverEffect x e h s).framer.slot = s.framer.slot := by
  unfold deliverEffect
  try dsimp only
  repeat' split
  all_goals simp

@[simp] theorem deliverEffect_framer_baseMap (x : Side) (e : ControlEffect) (h : Fin 16) (s : State) :
    (deliverEffect x e h s).framer.baseMap = s.framer.baseMap := by
  unfold deliverEffect
  try dsimp only
  repeat' split
  all_goals simp

@[simp] theorem deliverEffect_framer_effectiveMap (x : Side) (e : ControlEffect) (h : Fin 16) (s : State) :
    (deliverEffect x e h s).framer.effectiveMap = s.framer.effectiveMap := by
  unfold deliverEffect
  try dsimp only
  repeat' split
  all_goals simp

@[simp] theorem deliverEffect_framer_level (x : Side) (e : ControlEffect) (h : Fin 16) (s : State) :
    (deliverEffect x e h s).framer.level = s.framer.level := by
  unfold deliverEffect
  try dsimp only
  repeat' split
  all_goals simp

@[simp] theorem deliverEffect_framer_head (x : Side) (e : ControlEffect) (h : Fin 16) (s : State) :
    (deliverEffect x e h s).framer.head = s.framer.head := by
  unfold deliverEffect
  try dsimp only
  repeat' split
  all_goals simp

@[simp] theorem deliverEffect_framer_lbda (x : Side) (e : ControlEffect) (h : Fin 16) (s : State) :
    (deliverEffect x e h s).framer.lbda = s.framer.lbda := by
  unfold deliverEffect
  try dsimp only
  repeat' split
  all_goals simp

@[simp] theorem deliverEffect_framer_lbds (x : Side) (e : ControlEffect) (h : Fin 16) (s : State) :
    (deliverEffect x e h s).framer.lbds = s.framer.lbds := by
  unfold deliverEffect
  try dsimp only
  repeat' split
  all_goals simp

@[simp] theorem deliverEffect_budget (x : Side) (e : ControlEffect) (h : Fin 16) (s : State) :
    (deliverEffect x e h s).budget = s.budget := by
  unfold deliverEffect
  try dsimp only
  repeat' split
  all_goals simp

@[simp] theorem deliverEffect_dwellLimit (x : Side) (e : ControlEffect) (h : Fin 16) (s : State) :
    (deliverEffect x e h s).dwellLimit = s.dwellLimit := by
  unfold deliverEffect
  try dsimp only
  repeat' split
  all_goals simp

@[simp] theorem deliverEffect_earlyPolicy (x : Side) (e : ControlEffect) (h : Fin 16) (s : State) :
    (deliverEffect x e h s).earlyPolicy = s.earlyPolicy := by
  unfold deliverEffect
  try dsimp only
  repeat' split
  all_goals simp

@[simp] theorem deliverEffect_freeze_mode (x : Side) (e : ControlEffect) (h : Fin 16) (s : State) :
    (deliverEffect x e h s).freeze.mode = s.freeze.mode := by
  unfold deliverEffect
  try dsimp only
  repeat' split
  all_goals simp

@[simp] theorem deliverEffect_freeze_active (x : Side) (e : ControlEffect) (h : Fin 16) (s : State) :
    (deliverEffect x e h s).freeze.active = s.freeze.active := by
  unfold deliverEffect
  try dsimp only
  repeat' split
  all_goals simp

@[simp] theorem deliverEffect_events_mask (x : Side) (e : ControlEffect) (h : Fin 16) (s : State) :
    (deliverEffect x e h s).events.mask = s.events.mask := by
  unfold deliverEffect
  try dsimp only
  repeat' split
  all_goals simp

@[simp] theorem deliverEffect_reports_sent (x : Side) (e : ControlEffect) (h : Fin 16) (s : State) :
    (deliverEffect x e h s).reports.sent = s.reports.sent := by
  unfold deliverEffect
  try dsimp only
  repeat' split
  all_goals simp

@[simp] theorem deliverEffect_watch (x : Side) (e : ControlEffect) (h : Fin 16) (s : State) :
    (deliverEffect x e h s).watch = s.watch := by
  unfold deliverEffect
  try dsimp only
  repeat' split
  all_goals simp

@[simp] theorem deliverEffect_drives (x : Side) (e : ControlEffect) (h : Fin 16) (s : State) :
    (deliverEffect x e h s).drives = s.drives := by
  unfold deliverEffect
  try dsimp only
  repeat' split
  all_goals simp

/-! ### controlWord: what it leaves unchanged -/

@[simp] theorem controlWord_pending (p : Side) (w : Window) (v : Word) (s : State) :
    (controlWord p w v s).pending = s.pending := by simp [controlWord]

@[simp] theorem controlWord_rst (p : Side) (w : Window) (v : Word) (s : State) :
    (controlWord p w v s).rst = s.rst := by simp [controlWord]

@[simp] theorem controlWord_loader (p : Side) (w : Window) (v : Word) (s : State) :
    (controlWord p w v s).loader = s.loader := by simp [controlWord]

@[simp] theorem controlWord_link_upstream (p : Side) (w : Window) (v : Word) (s : State) :
    (controlWord p w v s).link.upstream = s.link.upstream := by simp [controlWord]

@[simp] theorem controlWord_link_ulwt (p : Side) (w : Window) (v : Word) (s : State) :
    (controlWord p w v s).link.ulwt = s.link.ulwt := by simp [controlWord]

@[simp] theorem controlWord_link_ulda (p : Side) (w : Window) (v : Word) (s : State) :
    (controlWord p w v s).link.ulda = s.link.ulda := by simp [controlWord]

@[simp] theorem controlWord_link_buffer (p : Side) (w : Window) (v : Word) (s : State) :
    (controlWord p w v s).link.buffer = s.link.buffer := by simp [controlWord]

@[simp] theorem controlWord_link_sending (p : Side) (w : Window) (v : Word) (s : State) :
    (controlWord p w v s).link.sending = s.link.sending := by simp [controlWord]

@[simp] theorem controlWord_link_dlda (p : Side) (w : Window) (v : Word) (s : State) :
    (controlWord p w v s).link.dlda = s.link.dlda := by simp [controlWord]

@[simp] theorem controlWord_windows (p : Side) (w : Window) (v : Word) (s : State) :
    (controlWord p w v s).windows = s.windows := by simp [controlWord]

@[simp] theorem controlWord_gates (p : Side) (w : Window) (v : Word) (s : State) :
    (controlWord p w v s).gates = s.gates := by simp [controlWord]

@[simp] theorem controlWord_engine_unit (p : Side) (w : Window) (v : Word) (s : State) :
    (controlWord p w v s).engine.unit = s.engine.unit := by simp [controlWord]

@[simp] theorem controlWord_engine_lastServed (p : Side) (w : Window) (v : Word) (s : State) :
    (controlWord p w v s).engine.lastServed = s.engine.lastServed := by simp [controlWord]

@[simp] theorem controlWord_thermal (p : Side) (w : Window) (v : Word) (s : State) :
    (controlWord p w v s).thermal = s.thermal := by simp [controlWord]

@[simp] theorem controlWord_framer_slot (p : Side) (w : Window) (v : Word) (s : State) :
    (controlWord p w v s).framer.slot = s.framer.slot := by simp [controlWord]

@[simp] theorem controlWord_framer_baseMap (p : Side) (w : Window) (v : Word) (s : State) :
    (controlWord p w v s).framer.baseMap = s.framer.baseMap := by simp [controlWord]

@[simp] theorem controlWord_framer_effectiveMap (p : Side) (w : Window) (v : Word) (s : State) :
    (controlWord p w v s).framer.effectiveMap = s.framer.effectiveMap := by simp [controlWord]

@[simp] theorem controlWord_framer_level (p : Side) (w : Window) (v : Word) (s : State) :
    (controlWord p w v s).framer.level = s.framer.level := by simp [controlWord]

@[simp] theorem controlWord_framer_head (p : Side) (w : Window) (v : Word) (s : State) :
    (controlWord p w v s).framer.head = s.framer.head := by simp [controlWord]

@[simp] theorem controlWord_framer_lbda (p : Side) (w : Window) (v : Word) (s : State) :
    (controlWord p w v s).framer.lbda = s.framer.lbda := by simp [controlWord]

@[simp] theorem controlWord_framer_lbds (p : Side) (w : Window) (v : Word) (s : State) :
    (controlWord p w v s).framer.lbds = s.framer.lbds := by simp [controlWord]

@[simp] theorem controlWord_budget (p : Side) (w : Window) (v : Word) (s : State) :
    (controlWord p w v s).budget = s.budget := by simp [controlWord]

@[simp] theorem controlWord_dwellLimit (p : Side) (w : Window) (v : Word) (s : State) :
    (controlWord p w v s).dwellLimit = s.dwellLimit := by simp [controlWord]

@[simp] theorem controlWord_earlyPolicy (p : Side) (w : Window) (v : Word) (s : State) :
    (controlWord p w v s).earlyPolicy = s.earlyPolicy := by simp [controlWord]

@[simp] theorem controlWord_freeze_mode (p : Side) (w : Window) (v : Word) (s : State) :
    (controlWord p w v s).freeze.mode = s.freeze.mode := by simp [controlWord]

@[simp] theorem controlWord_freeze_active (p : Side) (w : Window) (v : Word) (s : State) :
    (controlWord p w v s).freeze.active = s.freeze.active := by simp [controlWord]

@[simp] theorem controlWord_events_mask (p : Side) (w : Window) (v : Word) (s : State) :
    (controlWord p w v s).events.mask = s.events.mask := by simp [controlWord]

@[simp] theorem controlWord_reports_sent (p : Side) (w : Window) (v : Word) (s : State) :
    (controlWord p w v s).reports.sent = s.reports.sent := by simp [controlWord]

@[simp] theorem controlWord_watch (p : Side) (w : Window) (v : Word) (s : State) :
    (controlWord p w v s).watch = s.watch := by simp [controlWord]

@[simp] theorem controlWord_drives (p : Side) (w : Window) (v : Word) (s : State) :
    (controlWord p w v s).drives = s.drives := by simp [controlWord]

/-! ### offerHeld: what it leaves unchanged -/

@[simp] theorem offerHeld_pending (p : Side) (i : Fin 16) (h : Fin 12) (a : RegAddr) (v : Word) (s : State) :
    (offerHeld p i h a v s).1.pending = s.pending := by
  unfold offerHeld
  try dsimp only
  repeat' split
  all_goals simp

@[simp] theorem offerHeld_rst (p : Side) (i : Fin 16) (h : Fin 12) (a : RegAddr) (v : Word) (s : State) :
    (offerHeld p i h a v s).1.rst = s.rst := by
  unfold offerHeld
  try dsimp only
  repeat' split
  all_goals simp

@[simp] theorem offerHeld_loader (p : Side) (i : Fin 16) (h : Fin 12) (a : RegAddr) (v : Word) (s : State) :
    (offerHeld p i h a v s).1.loader = s.loader := by
  unfold offerHeld
  try dsimp only
  repeat' split
  all_goals simp

@[simp] theorem offerHeld_link (p : Side) (i : Fin 16) (h : Fin 12) (a : RegAddr) (v : Word) (s : State) :
    (offerHeld p i h a v s).1.link = s.link := by
  unfold offerHeld
  try dsimp only
  repeat' split
  all_goals simp

@[simp] theorem offerHeld_windows (p : Side) (i : Fin 16) (h : Fin 12) (a : RegAddr) (v : Word) (s : State) :
    (offerHeld p i h a v s).1.windows = s.windows := by
  unfold offerHeld
  try dsimp only
  repeat' split
  all_goals simp

@[simp] theorem offerHeld_shadow (p : Side) (i : Fin 16) (h : Fin 12) (a : RegAddr) (v : Word) (s : State) :
    (offerHeld p i h a v s).1.shadow = s.shadow := by
  unfold offerHeld
  try dsimp only
  repeat' split
  all_goals simp

@[simp] theorem offerHeld_heads (p : Side) (i : Fin 16) (h : Fin 12) (a : RegAddr) (v : Word) (s : State) :
    (offerHeld p i h a v s).1.heads = s.heads := by
  unfold offerHeld
  try dsimp only
  repeat' split
  all_goals simp

@[simp] theorem offerHeld_gates (p : Side) (i : Fin 16) (h : Fin 12) (a : RegAddr) (v : Word) (s : State) :
    (offerHeld p i h a v s).1.gates = s.gates := by
  unfold offerHeld
  try dsimp only
  repeat' split
  all_goals simp

@[simp] theorem offerHeld_chan (p : Side) (i : Fin 16) (h : Fin 12) (a : RegAddr) (v : Word) (s : State) :
    (offerHeld p i h a v s).1.chan = s.chan := by
  unfold offerHeld
  try dsimp only
  repeat' split
  all_goals simp

@[simp] theorem offerHeld_engine (p : Side) (i : Fin 16) (h : Fin 12) (a : RegAddr) (v : Word) (s : State) :
    (offerHeld p i h a v s).1.engine = s.engine := by
  unfold offerHeld
  try dsimp only
  repeat' split
  all_goals simp

@[simp] theorem offerHeld_thermal (p : Side) (i : Fin 16) (h : Fin 12) (a : RegAddr) (v : Word) (s : State) :
    (offerHeld p i h a v s).1.thermal = s.thermal := by
  unfold offerHeld
  try dsimp only
  repeat' split
  all_goals simp

@[simp] theorem offerHeld_framer (p : Side) (i : Fin 16) (h : Fin 12) (a : RegAddr) (v : Word) (s : State) :
    (offerHeld p i h a v s).1.framer = s.framer := by
  unfold offerHeld
  try dsimp only
  repeat' split
  all_goals simp

@[simp] theorem offerHeld_budget (p : Side) (i : Fin 16) (h : Fin 12) (a : RegAddr) (v : Word) (s : State) :
    (offerHeld p i h a v s).1.budget = s.budget := by
  unfold offerHeld
  try dsimp only
  repeat' split
  all_goals simp

@[simp] theorem offerHeld_dwellLimit (p : Side) (i : Fin 16) (h : Fin 12) (a : RegAddr) (v : Word) (s : State) :
    (offerHeld p i h a v s).1.dwellLimit = s.dwellLimit := by
  unfold offerHeld
  try dsimp only
  repeat' split
  all_goals simp

@[simp] theorem offerHeld_earlyPolicy (p : Side) (i : Fin 16) (h : Fin 12) (a : RegAddr) (v : Word) (s : State) :
    (offerHeld p i h a v s).1.earlyPolicy = s.earlyPolicy := by
  unfold offerHeld
  try dsimp only
  repeat' split
  all_goals simp

@[simp] theorem offerHeld_freeze (p : Side) (i : Fin 16) (h : Fin 12) (a : RegAddr) (v : Word) (s : State) :
    (offerHeld p i h a v s).1.freeze = s.freeze := by
  unfold offerHeld
  try dsimp only
  repeat' split
  all_goals simp

@[simp] theorem offerHeld_events_mask (p : Side) (i : Fin 16) (h : Fin 12) (a : RegAddr) (v : Word) (s : State) :
    (offerHeld p i h a v s).1.events.mask = s.events.mask := by
  unfold offerHeld
  try dsimp only
  repeat' split
  all_goals simp

@[simp] theorem offerHeld_reports_sent (p : Side) (i : Fin 16) (h : Fin 12) (a : RegAddr) (v : Word) (s : State) :
    (offerHeld p i h a v s).1.reports.sent = s.reports.sent := by
  unfold offerHeld
  try dsimp only
  repeat' split
  all_goals simp

@[simp] theorem offerHeld_watch (p : Side) (i : Fin 16) (h : Fin 12) (a : RegAddr) (v : Word) (s : State) :
    (offerHeld p i h a v s).1.watch = s.watch := by
  unfold offerHeld
  try dsimp only
  repeat' split
  all_goals simp

@[simp] theorem offerHeld_drives (p : Side) (i : Fin 16) (h : Fin 12) (a : RegAddr) (v : Word) (s : State) :
    (offerHeld p i h a v s).1.drives = s.drives := by
  unfold offerHeld
  try dsimp only
  repeat' split
  all_goals simp

/-! ### valueWord: what it leaves unchanged -/

@[simp] theorem valueWord_pending (p : Side) (i : Fin 16) (w : Window) (a : RegAddr) (v : Word) (s : State) :
    (valueWord p i w a v s).1.pending = s.pending := by
  unfold valueWord
  try dsimp only
  repeat' split
  all_goals simp

@[simp] theorem valueWord_rst (p : Side) (i : Fin 16) (w : Window) (a : RegAddr) (v : Word) (s : State) :
    (valueWord p i w a v s).1.rst = s.rst := by
  unfold valueWord
  try dsimp only
  repeat' split
  all_goals simp

@[simp] theorem valueWord_loader (p : Side) (i : Fin 16) (w : Window) (a : RegAddr) (v : Word) (s : State) :
    (valueWord p i w a v s).1.loader = s.loader := by
  unfold valueWord
  try dsimp only
  repeat' split
  all_goals simp

@[simp] theorem valueWord_link (p : Side) (i : Fin 16) (w : Window) (a : RegAddr) (v : Word) (s : State) :
    (valueWord p i w a v s).1.link = s.link := by
  unfold valueWord
  try dsimp only
  repeat' split
  all_goals simp

@[simp] theorem valueWord_windows (p : Side) (i : Fin 16) (w : Window) (a : RegAddr) (v : Word) (s : State) :
    (valueWord p i w a v s).1.windows = s.windows := by
  unfold valueWord
  try dsimp only
  repeat' split
  all_goals simp

@[simp] theorem valueWord_shadow (p : Side) (i : Fin 16) (w : Window) (a : RegAddr) (v : Word) (s : State) :
    (valueWord p i w a v s).1.shadow = s.shadow := by
  unfold valueWord
  try dsimp only
  repeat' split
  all_goals simp

@[simp] theorem valueWord_gates (p : Side) (i : Fin 16) (w : Window) (a : RegAddr) (v : Word) (s : State) :
    (valueWord p i w a v s).1.gates = s.gates := by
  unfold valueWord
  try dsimp only
  repeat' split
  all_goals simp

@[simp] theorem valueWord_chan (p : Side) (i : Fin 16) (w : Window) (a : RegAddr) (v : Word) (s : State) :
    (valueWord p i w a v s).1.chan = s.chan := by
  unfold valueWord
  try dsimp only
  repeat' split
  all_goals simp

@[simp] theorem valueWord_engine (p : Side) (i : Fin 16) (w : Window) (a : RegAddr) (v : Word) (s : State) :
    (valueWord p i w a v s).1.engine = s.engine := by
  unfold valueWord
  try dsimp only
  repeat' split
  all_goals simp

@[simp] theorem valueWord_thermal (p : Side) (i : Fin 16) (w : Window) (a : RegAddr) (v : Word) (s : State) :
    (valueWord p i w a v s).1.thermal = s.thermal := by
  unfold valueWord
  try dsimp only
  repeat' split
  all_goals simp

@[simp] theorem valueWord_framer (p : Side) (i : Fin 16) (w : Window) (a : RegAddr) (v : Word) (s : State) :
    (valueWord p i w a v s).1.framer = s.framer := by
  unfold valueWord
  try dsimp only
  repeat' split
  all_goals simp

@[simp] theorem valueWord_budget (p : Side) (i : Fin 16) (w : Window) (a : RegAddr) (v : Word) (s : State) :
    (valueWord p i w a v s).1.budget = s.budget := by
  unfold valueWord
  try dsimp only
  repeat' split
  all_goals simp

@[simp] theorem valueWord_dwellLimit (p : Side) (i : Fin 16) (w : Window) (a : RegAddr) (v : Word) (s : State) :
    (valueWord p i w a v s).1.dwellLimit = s.dwellLimit := by
  unfold valueWord
  try dsimp only
  repeat' split
  all_goals simp

@[simp] theorem valueWord_earlyPolicy (p : Side) (i : Fin 16) (w : Window) (a : RegAddr) (v : Word) (s : State) :
    (valueWord p i w a v s).1.earlyPolicy = s.earlyPolicy := by
  unfold valueWord
  try dsimp only
  repeat' split
  all_goals simp

@[simp] theorem valueWord_freeze (p : Side) (i : Fin 16) (w : Window) (a : RegAddr) (v : Word) (s : State) :
    (valueWord p i w a v s).1.freeze = s.freeze := by
  unfold valueWord
  try dsimp only
  repeat' split
  all_goals simp

@[simp] theorem valueWord_events_mask (p : Side) (i : Fin 16) (w : Window) (a : RegAddr) (v : Word) (s : State) :
    (valueWord p i w a v s).1.events.mask = s.events.mask := by
  unfold valueWord
  try dsimp only
  repeat' split
  all_goals simp

@[simp] theorem valueWord_reports_sent (p : Side) (i : Fin 16) (w : Window) (a : RegAddr) (v : Word) (s : State) :
    (valueWord p i w a v s).1.reports.sent = s.reports.sent := by
  unfold valueWord
  try dsimp only
  repeat' split
  all_goals simp

@[simp] theorem valueWord_watch (p : Side) (i : Fin 16) (w : Window) (a : RegAddr) (v : Word) (s : State) :
    (valueWord p i w a v s).1.watch = s.watch := by
  unfold valueWord
  try dsimp only
  repeat' split
  all_goals simp

@[simp] theorem valueWord_drives (p : Side) (i : Fin 16) (w : Window) (a : RegAddr) (v : Word) (s : State) :
    (valueWord p i w a v s).1.drives = s.drives := by
  unfold valueWord
  try dsimp only
  repeat' split
  all_goals simp

/-! ### classifyWord: what it leaves unchanged -/

@[simp] theorem classifyWord_pending (p : Side) (a : RegAddr) (v : Word) (s : State) :
    (classifyWord p a v s).1.pending = s.pending := by
  unfold classifyWord
  try dsimp only
  repeat' split
  all_goals simp

@[simp] theorem classifyWord_rst (p : Side) (a : RegAddr) (v : Word) (s : State) :
    (classifyWord p a v s).1.rst = s.rst := by
  unfold classifyWord
  try dsimp only
  repeat' split
  all_goals simp

@[simp] theorem classifyWord_loader (p : Side) (a : RegAddr) (v : Word) (s : State) :
    (classifyWord p a v s).1.loader = s.loader := by
  unfold classifyWord
  try dsimp only
  repeat' split
  all_goals simp

@[simp] theorem classifyWord_link_upstream (p : Side) (a : RegAddr) (v : Word) (s : State) :
    (classifyWord p a v s).1.link.upstream = s.link.upstream := by
  unfold classifyWord
  try dsimp only
  repeat' split
  all_goals simp

@[simp] theorem classifyWord_link_ulwt (p : Side) (a : RegAddr) (v : Word) (s : State) :
    (classifyWord p a v s).1.link.ulwt = s.link.ulwt := by
  unfold classifyWord
  try dsimp only
  repeat' split
  all_goals simp

@[simp] theorem classifyWord_link_ulda (p : Side) (a : RegAddr) (v : Word) (s : State) :
    (classifyWord p a v s).1.link.ulda = s.link.ulda := by
  unfold classifyWord
  try dsimp only
  repeat' split
  all_goals simp

@[simp] theorem classifyWord_link_buffer (p : Side) (a : RegAddr) (v : Word) (s : State) :
    (classifyWord p a v s).1.link.buffer = s.link.buffer := by
  unfold classifyWord
  try dsimp only
  repeat' split
  all_goals simp

@[simp] theorem classifyWord_link_sending (p : Side) (a : RegAddr) (v : Word) (s : State) :
    (classifyWord p a v s).1.link.sending = s.link.sending := by
  unfold classifyWord
  try dsimp only
  repeat' split
  all_goals simp

@[simp] theorem classifyWord_link_dlda (p : Side) (a : RegAddr) (v : Word) (s : State) :
    (classifyWord p a v s).1.link.dlda = s.link.dlda := by
  unfold classifyWord
  try dsimp only
  repeat' split
  all_goals simp

@[simp] theorem classifyWord_windows (p : Side) (a : RegAddr) (v : Word) (s : State) :
    (classifyWord p a v s).1.windows = s.windows := by
  unfold classifyWord
  try dsimp only
  repeat' split
  all_goals simp

@[simp] theorem classifyWord_gates (p : Side) (a : RegAddr) (v : Word) (s : State) :
    (classifyWord p a v s).1.gates = s.gates := by
  unfold classifyWord
  try dsimp only
  repeat' split
  all_goals simp

@[simp] theorem classifyWord_engine_unit (p : Side) (a : RegAddr) (v : Word) (s : State) :
    (classifyWord p a v s).1.engine.unit = s.engine.unit := by
  unfold classifyWord
  try dsimp only
  repeat' split
  all_goals simp

@[simp] theorem classifyWord_engine_lastServed (p : Side) (a : RegAddr) (v : Word) (s : State) :
    (classifyWord p a v s).1.engine.lastServed = s.engine.lastServed := by
  unfold classifyWord
  try dsimp only
  repeat' split
  all_goals simp

@[simp] theorem classifyWord_thermal (p : Side) (a : RegAddr) (v : Word) (s : State) :
    (classifyWord p a v s).1.thermal = s.thermal := by
  unfold classifyWord
  try dsimp only
  repeat' split
  all_goals simp

@[simp] theorem classifyWord_framer_slot (p : Side) (a : RegAddr) (v : Word) (s : State) :
    (classifyWord p a v s).1.framer.slot = s.framer.slot := by
  unfold classifyWord
  try dsimp only
  repeat' split
  all_goals simp

@[simp] theorem classifyWord_framer_baseMap (p : Side) (a : RegAddr) (v : Word) (s : State) :
    (classifyWord p a v s).1.framer.baseMap = s.framer.baseMap := by
  unfold classifyWord
  try dsimp only
  repeat' split
  all_goals simp

@[simp] theorem classifyWord_framer_effectiveMap (p : Side) (a : RegAddr) (v : Word) (s : State) :
    (classifyWord p a v s).1.framer.effectiveMap = s.framer.effectiveMap := by
  unfold classifyWord
  try dsimp only
  repeat' split
  all_goals simp

@[simp] theorem classifyWord_framer_level (p : Side) (a : RegAddr) (v : Word) (s : State) :
    (classifyWord p a v s).1.framer.level = s.framer.level := by
  unfold classifyWord
  try dsimp only
  repeat' split
  all_goals simp

@[simp] theorem classifyWord_framer_head (p : Side) (a : RegAddr) (v : Word) (s : State) :
    (classifyWord p a v s).1.framer.head = s.framer.head := by
  unfold classifyWord
  try dsimp only
  repeat' split
  all_goals simp

@[simp] theorem classifyWord_framer_lbda (p : Side) (a : RegAddr) (v : Word) (s : State) :
    (classifyWord p a v s).1.framer.lbda = s.framer.lbda := by
  unfold classifyWord
  try dsimp only
  repeat' split
  all_goals simp

@[simp] theorem classifyWord_framer_lbds (p : Side) (a : RegAddr) (v : Word) (s : State) :
    (classifyWord p a v s).1.framer.lbds = s.framer.lbds := by
  unfold classifyWord
  try dsimp only
  repeat' split
  all_goals simp

@[simp] theorem classifyWord_budget (p : Side) (a : RegAddr) (v : Word) (s : State) :
    (classifyWord p a v s).1.budget = s.budget := by
  unfold classifyWord
  try dsimp only
  repeat' split
  all_goals simp

@[simp] theorem classifyWord_dwellLimit (p : Side) (a : RegAddr) (v : Word) (s : State) :
    (classifyWord p a v s).1.dwellLimit = s.dwellLimit := by
  unfold classifyWord
  try dsimp only
  repeat' split
  all_goals simp

@[simp] theorem classifyWord_earlyPolicy (p : Side) (a : RegAddr) (v : Word) (s : State) :
    (classifyWord p a v s).1.earlyPolicy = s.earlyPolicy := by
  unfold classifyWord
  try dsimp only
  repeat' split
  all_goals simp

@[simp] theorem classifyWord_freeze_mode (p : Side) (a : RegAddr) (v : Word) (s : State) :
    (classifyWord p a v s).1.freeze.mode = s.freeze.mode := by
  unfold classifyWord
  try dsimp only
  repeat' split
  all_goals simp

@[simp] theorem classifyWord_freeze_active (p : Side) (a : RegAddr) (v : Word) (s : State) :
    (classifyWord p a v s).1.freeze.active = s.freeze.active := by
  unfold classifyWord
  try dsimp only
  repeat' split
  all_goals simp

@[simp] theorem classifyWord_events_mask (p : Side) (a : RegAddr) (v : Word) (s : State) :
    (classifyWord p a v s).1.events.mask = s.events.mask := by
  unfold classifyWord
  try dsimp only
  repeat' split
  all_goals simp

@[simp] theorem classifyWord_reports_sent (p : Side) (a : RegAddr) (v : Word) (s : State) :
    (classifyWord p a v s).1.reports.sent = s.reports.sent := by
  unfold classifyWord
  try dsimp only
  repeat' split
  all_goals simp

@[simp] theorem classifyWord_watch (p : Side) (a : RegAddr) (v : Word) (s : State) :
    (classifyWord p a v s).1.watch = s.watch := by
  unfold classifyWord
  try dsimp only
  repeat' split
  all_goals simp

@[simp] theorem classifyWord_drives (p : Side) (a : RegAddr) (v : Word) (s : State) :
    (classifyWord p a v s).1.drives = s.drives := by
  unfold classifyWord
  try dsimp only
  repeat' split
  all_goals simp

/-! ### traceWord: what it leaves unchanged -/

@[simp] theorem traceWord_pending (p : Side) (a : RegAddr) (d : TraceDisposition) (v : Word) (s : State) :
    (traceWord p a d v s).pending = s.pending := by
  unfold traceWord
  try dsimp only
  repeat' split
  all_goals simp

@[simp] theorem traceWord_rst (p : Side) (a : RegAddr) (d : TraceDisposition) (v : Word) (s : State) :
    (traceWord p a d v s).rst = s.rst := by
  unfold traceWord
  try dsimp only
  repeat' split
  all_goals simp

@[simp] theorem traceWord_loader (p : Side) (a : RegAddr) (d : TraceDisposition) (v : Word) (s : State) :
    (traceWord p a d v s).loader = s.loader := by
  unfold traceWord
  try dsimp only
  repeat' split
  all_goals simp

@[simp] theorem traceWord_link (p : Side) (a : RegAddr) (d : TraceDisposition) (v : Word) (s : State) :
    (traceWord p a d v s).link = s.link := by
  unfold traceWord
  try dsimp only
  repeat' split
  all_goals simp

@[simp] theorem traceWord_windows (p : Side) (a : RegAddr) (d : TraceDisposition) (v : Word) (s : State) :
    (traceWord p a d v s).windows = s.windows := by
  unfold traceWord
  try dsimp only
  repeat' split
  all_goals simp

@[simp] theorem traceWord_shadow (p : Side) (a : RegAddr) (d : TraceDisposition) (v : Word) (s : State) :
    (traceWord p a d v s).shadow = s.shadow := by
  unfold traceWord
  try dsimp only
  repeat' split
  all_goals simp

@[simp] theorem traceWord_held (p : Side) (a : RegAddr) (d : TraceDisposition) (v : Word) (s : State) :
    (traceWord p a d v s).held = s.held := by
  unfold traceWord
  try dsimp only
  repeat' split
  all_goals simp

@[simp] theorem traceWord_heads (p : Side) (a : RegAddr) (d : TraceDisposition) (v : Word) (s : State) :
    (traceWord p a d v s).heads = s.heads := by
  unfold traceWord
  try dsimp only
  repeat' split
  all_goals simp

@[simp] theorem traceWord_gates (p : Side) (a : RegAddr) (d : TraceDisposition) (v : Word) (s : State) :
    (traceWord p a d v s).gates = s.gates := by
  unfold traceWord
  try dsimp only
  repeat' split
  all_goals simp

@[simp] theorem traceWord_chan (p : Side) (a : RegAddr) (d : TraceDisposition) (v : Word) (s : State) :
    (traceWord p a d v s).chan = s.chan := by
  unfold traceWord
  try dsimp only
  repeat' split
  all_goals simp

@[simp] theorem traceWord_engine (p : Side) (a : RegAddr) (d : TraceDisposition) (v : Word) (s : State) :
    (traceWord p a d v s).engine = s.engine := by
  unfold traceWord
  try dsimp only
  repeat' split
  all_goals simp

@[simp] theorem traceWord_thermal (p : Side) (a : RegAddr) (d : TraceDisposition) (v : Word) (s : State) :
    (traceWord p a d v s).thermal = s.thermal := by
  unfold traceWord
  try dsimp only
  repeat' split
  all_goals simp

@[simp] theorem traceWord_framer (p : Side) (a : RegAddr) (d : TraceDisposition) (v : Word) (s : State) :
    (traceWord p a d v s).framer = s.framer := by
  unfold traceWord
  try dsimp only
  repeat' split
  all_goals simp

@[simp] theorem traceWord_budget (p : Side) (a : RegAddr) (d : TraceDisposition) (v : Word) (s : State) :
    (traceWord p a d v s).budget = s.budget := by
  unfold traceWord
  try dsimp only
  repeat' split
  all_goals simp

@[simp] theorem traceWord_dwellLimit (p : Side) (a : RegAddr) (d : TraceDisposition) (v : Word) (s : State) :
    (traceWord p a d v s).dwellLimit = s.dwellLimit := by
  unfold traceWord
  try dsimp only
  repeat' split
  all_goals simp

@[simp] theorem traceWord_earlyPolicy (p : Side) (a : RegAddr) (d : TraceDisposition) (v : Word) (s : State) :
    (traceWord p a d v s).earlyPolicy = s.earlyPolicy := by
  unfold traceWord
  try dsimp only
  repeat' split
  all_goals simp

@[simp] theorem traceWord_freeze (p : Side) (a : RegAddr) (d : TraceDisposition) (v : Word) (s : State) :
    (traceWord p a d v s).freeze = s.freeze := by
  unfold traceWord
  try dsimp only
  repeat' split
  all_goals simp

@[simp] theorem traceWord_events_mask (p : Side) (a : RegAddr) (d : TraceDisposition) (v : Word) (s : State) :
    (traceWord p a d v s).events.mask = s.events.mask := by
  unfold traceWord
  try dsimp only
  repeat' split
  all_goals simp

@[simp] theorem traceWord_reports_sent (p : Side) (a : RegAddr) (d : TraceDisposition) (v : Word) (s : State) :
    (traceWord p a d v s).reports.sent = s.reports.sent := by
  unfold traceWord
  try dsimp only
  repeat' split
  all_goals simp

@[simp] theorem traceWord_watch (p : Side) (a : RegAddr) (d : TraceDisposition) (v : Word) (s : State) :
    (traceWord p a d v s).watch = s.watch := by
  unfold traceWord
  try dsimp only
  repeat' split
  all_goals simp

@[simp] theorem traceWord_drives (p : Side) (a : RegAddr) (d : TraceDisposition) (v : Word) (s : State) :
    (traceWord p a d v s).drives = s.drives := by
  unfold traceWord
  try dsimp only
  repeat' split
  all_goals simp

/-! ### processWord: what it leaves unchanged -/

@[simp] theorem processWord_pending (p : Side) (a : RegAddr) (v : Word) (s : State) :
    (processWord p a v s).1.pending = s.pending := by simp [processWord]

@[simp] theorem processWord_rst (p : Side) (a : RegAddr) (v : Word) (s : State) :
    (processWord p a v s).1.rst = s.rst := by simp [processWord]

@[simp] theorem processWord_loader (p : Side) (a : RegAddr) (v : Word) (s : State) :
    (processWord p a v s).1.loader = s.loader := by simp [processWord]

@[simp] theorem processWord_link_upstream (p : Side) (a : RegAddr) (v : Word) (s : State) :
    (processWord p a v s).1.link.upstream = s.link.upstream := by simp [processWord]

@[simp] theorem processWord_link_ulwt (p : Side) (a : RegAddr) (v : Word) (s : State) :
    (processWord p a v s).1.link.ulwt = s.link.ulwt := by simp [processWord]

@[simp] theorem processWord_link_ulda (p : Side) (a : RegAddr) (v : Word) (s : State) :
    (processWord p a v s).1.link.ulda = s.link.ulda := by simp [processWord]

@[simp] theorem processWord_link_buffer (p : Side) (a : RegAddr) (v : Word) (s : State) :
    (processWord p a v s).1.link.buffer = s.link.buffer := by simp [processWord]

@[simp] theorem processWord_link_sending (p : Side) (a : RegAddr) (v : Word) (s : State) :
    (processWord p a v s).1.link.sending = s.link.sending := by simp [processWord]

@[simp] theorem processWord_link_dlda (p : Side) (a : RegAddr) (v : Word) (s : State) :
    (processWord p a v s).1.link.dlda = s.link.dlda := by simp [processWord]

@[simp] theorem processWord_windows (p : Side) (a : RegAddr) (v : Word) (s : State) :
    (processWord p a v s).1.windows = s.windows := by simp [processWord]

@[simp] theorem processWord_gates (p : Side) (a : RegAddr) (v : Word) (s : State) :
    (processWord p a v s).1.gates = s.gates := by simp [processWord]

@[simp] theorem processWord_engine_unit (p : Side) (a : RegAddr) (v : Word) (s : State) :
    (processWord p a v s).1.engine.unit = s.engine.unit := by simp [processWord]

@[simp] theorem processWord_engine_lastServed (p : Side) (a : RegAddr) (v : Word) (s : State) :
    (processWord p a v s).1.engine.lastServed = s.engine.lastServed := by simp [processWord]

@[simp] theorem processWord_thermal (p : Side) (a : RegAddr) (v : Word) (s : State) :
    (processWord p a v s).1.thermal = s.thermal := by simp [processWord]

@[simp] theorem processWord_framer_slot (p : Side) (a : RegAddr) (v : Word) (s : State) :
    (processWord p a v s).1.framer.slot = s.framer.slot := by simp [processWord]

@[simp] theorem processWord_framer_baseMap (p : Side) (a : RegAddr) (v : Word) (s : State) :
    (processWord p a v s).1.framer.baseMap = s.framer.baseMap := by simp [processWord]

@[simp] theorem processWord_framer_effectiveMap (p : Side) (a : RegAddr) (v : Word) (s : State) :
    (processWord p a v s).1.framer.effectiveMap = s.framer.effectiveMap := by simp [processWord]

@[simp] theorem processWord_framer_level (p : Side) (a : RegAddr) (v : Word) (s : State) :
    (processWord p a v s).1.framer.level = s.framer.level := by simp [processWord]

@[simp] theorem processWord_framer_head (p : Side) (a : RegAddr) (v : Word) (s : State) :
    (processWord p a v s).1.framer.head = s.framer.head := by simp [processWord]

@[simp] theorem processWord_framer_lbda (p : Side) (a : RegAddr) (v : Word) (s : State) :
    (processWord p a v s).1.framer.lbda = s.framer.lbda := by simp [processWord]

@[simp] theorem processWord_framer_lbds (p : Side) (a : RegAddr) (v : Word) (s : State) :
    (processWord p a v s).1.framer.lbds = s.framer.lbds := by simp [processWord]

@[simp] theorem processWord_budget (p : Side) (a : RegAddr) (v : Word) (s : State) :
    (processWord p a v s).1.budget = s.budget := by simp [processWord]

@[simp] theorem processWord_dwellLimit (p : Side) (a : RegAddr) (v : Word) (s : State) :
    (processWord p a v s).1.dwellLimit = s.dwellLimit := by simp [processWord]

@[simp] theorem processWord_earlyPolicy (p : Side) (a : RegAddr) (v : Word) (s : State) :
    (processWord p a v s).1.earlyPolicy = s.earlyPolicy := by simp [processWord]

@[simp] theorem processWord_freeze_mode (p : Side) (a : RegAddr) (v : Word) (s : State) :
    (processWord p a v s).1.freeze.mode = s.freeze.mode := by simp [processWord]

@[simp] theorem processWord_freeze_active (p : Side) (a : RegAddr) (v : Word) (s : State) :
    (processWord p a v s).1.freeze.active = s.freeze.active := by simp [processWord]

@[simp] theorem processWord_events_mask (p : Side) (a : RegAddr) (v : Word) (s : State) :
    (processWord p a v s).1.events.mask = s.events.mask := by simp [processWord]

@[simp] theorem processWord_reports_sent (p : Side) (a : RegAddr) (v : Word) (s : State) :
    (processWord p a v s).1.reports.sent = s.reports.sent := by simp [processWord]

@[simp] theorem processWord_watch (p : Side) (a : RegAddr) (v : Word) (s : State) :
    (processWord p a v s).1.watch = s.watch := by simp [processWord]

@[simp] theorem processWord_drives (p : Side) (a : RegAddr) (v : Word) (s : State) :
    (processWord p a v s).1.drives = s.drives := by simp [processWord]

end Sys2Proof.Machine
end

