-- ==== Sys2Proof/Laws/Ops.lean ====
section
/-!
SUPPORT. What the shared operations do to the parts of the state that they change (Laws/Frames.lean and
Laws/WordFrames.lean say what they leave alone): one equation for each part, to be cited in place of unfolding the
operation.
-/

namespace Sys2Proof.Machine

/-! ## Replacing the link (chapter 1) -/

/-- The state with another link. -/
def State.withLink (L : Link) (s : State) : State := { s with link := L }

theorem withLink_link (L : Link) (s : State) : (State.withLink L s).link = L := rfl

theorem withLink_same (s : State) : State.withLink s.link s = s := rfl

theorem withLink_withLink (L M : Link) (s : State) : State.withLink L (State.withLink M s) = State.withLink L s := rfl

/-- Queueing a record does not see the link. -/
theorem queueReport_withLink (L : Link) (r : Report) (s : State) :
    queueReport r (State.withLink L s) = State.withLink L (queueReport r s) := by
  unfold queueReport
  rw [show (State.withLink L s).reports = s.reports from rfl]
  by_cases h : s.reports.records.length < Config.reportCapacity
  · rw [if_pos h, if_pos h]; rfl
  · rw [if_neg h, if_neg h]
    by_cases h2 : r.isOverflow = true
    · rw [if_pos h2, if_pos h2]
    · rw [if_neg h2, if_neg h2]; rfl

/-- A raise does not see the link. -/
theorem raiseEvent_withLink (L : Link) (p : Side) (k : EventKind) (i : Bool) (s : State) :
    raiseEvent p k i (State.withLink L s) = State.withLink L (raiseEvent p k i s) := by
  unfold raiseEvent; rw [← queueReport_withLink]; rfl

/-- A capture does not see the link. -/
theorem captureCode_withLink (L : Link) (x : Side) (h : Fin 12) (n : CodeName) (v : Nat) (s : State) :
    captureCode x h n v (State.withLink L s) = State.withLink L (captureCode x h n v s) := by
  unfold captureCode; simp only []
  rw [show (State.withLink L s).headRec x h = s.headRec x h from rfl]
  by_cases hv : v ≤ (s.headRec x h).image.ceiling
  · rw [if_pos hv, if_pos hv]; rfl
  · rw [if_neg hv, if_neg hv, ← raiseEvent_withLink]; rfl

/-- A trace does not see the link. -/
theorem traceWord_withLink (L : Link) (p : Side) (a : RegAddr) (d : TraceDisposition) (w : Word) (s : State) :
    traceWord p a d w (State.withLink L s) = State.withLink L (traceWord p a d w s) := by
  unfold traceWord
  rw [show (State.withLink L s).findWatch p a (d = .read) = s.findWatch p a (d = .read) from rfl]
  cases s.findWatch p a (d = .read)
  · rfl
  · simp only []; rw [queueReport_withLink]

/-- The capture of a released entry does not see the link. -/
theorem captureEntry_withLink (L : Link) (e : HeldEntry) (s : State) :
    captureEntry (State.withLink L s) e = State.withLink L (captureEntry s e) := by
  unfold captureEntry; simp only []; rw [← captureCode_withLink]; rfl

/-- Nor do the captures of several. -/
theorem captureEntries_withLink (L : Link) (l : List HeldEntry) (s : State) :
    l.foldl captureEntry (State.withLink L s) = State.withLink L (l.foldl captureEntry s) := by
  induction l generalizing s with
  | nil => rfl
  | cons e l ih => simp only [List.foldl_cons, captureEntry_withLink, ih]

/-- Captures leave the link as it is. -/
theorem captureEntries_link (l : List HeldEntry) (s : State) : (l.foldl captureEntry s).link = s.link := by
  induction l generalizing s with
  | nil => rfl
  | cons e l ih => simp [ih]

/-- Captures leave the held-write queue as it is. -/
theorem captureEntries_held (l : List HeldEntry) (s : State) : (l.foldl captureEntry s).held = s.held := by
  induction l generalizing s with
  | nil => rfl
  | cons e l ih => simp [ih]

/-- A release appends its one-word transactions to the emission list, whatever stands there. -/
theorem releaseHeld_withLink (L : Link) (p : Side) (s : State) :
    releaseHeld p (State.withLink L s) =
      State.withLink
        { L with emission := L.emission ++ (s.held.filter fun e => e.side = p).map HeldEntry.txn }
        (releaseHeld p s) := by
  unfold releaseHeld
  simp only []
  rw [show (State.setHeld (List.filter (fun e => decide (e.side ≠ p)) (State.withLink L s).held)
      (State.withLink L s)) = State.withLink L (State.setHeld (List.filter (fun e => decide
      (e.side ≠ p)) s.held) s) from rfl, captureEntries_withLink]
  rfl

/-- Leaving the episode states appends the released transactions, whatever stands there. -/
theorem leaveEpisode_withLink (L : Link) (x : Side) (d : ChanState) (o : EpisodeOutcome) (s : State) :
    leaveEpisode x d o (State.withLink L s) =
      State.withLink
        { L with emission := L.emission ++ (s.held.filter fun e => e.side = x).map HeldEntry.txn }
        (leaveEpisode x d o s) := by
  unfold leaveEpisode
  simp only []
  rw [← show State.withLink L (State.setPlace x none (State.setUrgent x true (State.setChan x
      ((s.chan.get x).left d) s))) = (State.setPlace x none (State.setUrgent x true (State.setChan x
      (((State.withLink L s).chan.get x).left d) (State.withLink L s))))
      from rfl, queueReport_withLink, releaseHeld_withLink]
  simp
  rfl

/-! ## Reports and events (chapter 12) -/

/-- The records after one is queued: appended, or dropped at a full queue (R163, R164). -/
theorem queueReport_records (r : Report) (s : State) :
    (queueReport r s).reports.records =
      if s.reports.records.length < 16 then s.reports.records ++ [r] else s.reports.records := by
  unfold queueReport
  simp only [Config.reportCapacity]
  split
  · rfl
  · split <;> simp

/-- The records after a raise (R156). -/
theorem raiseEvent_records (p : Side) (k : EventKind) (i : Bool) (s : State) :
    (raiseEvent p k i s).reports.records =
      if s.reports.records.length < 16 then
        s.reports.records ++
          [.event p k i ((s.events.kinds.get p).contains k) (isMasked s.events.mask k) (s.chan.get p).episode]
      else s.reports.records := by
  unfold raiseEvent; rw [queueReport_records]; rfl

/-- A raise and a change of a channel that keeps its episode number commute. -/
theorem raiseEvent_modChan (p : Side) (k : EventKind) (i : Bool) (x : Side) (f : Channel → Channel)
    (hf : ∀ c, (f c).episode = c.episode) (s : State) :
    raiseEvent p k i (s.modChan x f) = (raiseEvent p k i s).modChan x f := by
  have hep : ((s.modChan x f).chan.get p).episode = (s.chan.get p).episode := by
    cases x <;> cases p <;> simp [State.modChan, State.setChan, PerSide.set, PerSide.get, hf]
  unfold raiseEvent
  rw [hep]
  unfold queueReport
  rw [show ∀ q, (State.setKinds p q (s.modChan x f)).reports = s.reports
      from fun _ => rfl, show ∀ q, (State.setKinds p q s).reports = s.reports from fun _ => rfl]
  by_cases h : s.reports.records.length < Config.reportCapacity
  · rw [if_pos h, if_pos h]; rfl
  · rw [if_neg h, if_neg h]
    by_cases h2 : (Report.event p k i ((s.events.kinds.get p).contains k) (isMasked s.events.mask k)
        (s.chan.get p).episode).isOverflow = true
    · rw [if_pos (by exact h2), if_pos h2]; rfl
    · rw [if_neg (by exact h2), if_neg h2]; rfl

/-! ## The head table (chapter 4) -/

/-- Reading a record after one has been replaced (R49). -/
theorem headRec_setHead (s : State) (x : Side) (h : Fin 12) (r : HeadRecord) (y : Side) (g : Fin 12) :
    (s.setHead x h r).headRec y g = if y = x ∧ g = h then r else s.headRec y g := by
  unfold State.headRec State.setHead
  simp only [PerSide.get_set]
  by_cases hy : y = x
  · subst hy
    simp only [if_true, true_and, Vector.getElem_set]
    by_cases hg : g = h
    · subst hg; simp
    · have : h.val ≠ g.val := fun k => hg (Fin.ext k.symm)
      simp [hg, this]
  · simp [hy]

/-! ## Leaving the episode states (chapter 6) -/

/-- The channels after an episode has been left (R92). -/
theorem leaveEpisode_chan_eq (x : Side) (d : ChanState) (o : EpisodeOutcome) (s : State) :
    (leaveEpisode x d o s).chan = s.chan.set x ((s.chan.get x).left d) := by
  unfold leaveEpisode; simp

/-- The request places after an episode has been left (R92). -/
theorem leaveEpisode_place_eq (x : Side) (d : ChanState) (o : EpisodeOutcome) (s : State) :
    (leaveEpisode x d o s).engine.place = s.engine.place.set x none := by
  unfold leaveEpisode; simp

/-- The urgent OFF flags after an episode has been left (R92). -/
theorem leaveEpisode_urgent_eq (x : Side) (d : ChanState) (o : EpisodeOutcome) (s : State) :
    (leaveEpisode x d o s).framer.urgent = s.framer.urgent.set x true := by
  unfold leaveEpisode; simp

/-- The held-write queue after an episode has been left (R42, R92). -/
theorem leaveEpisode_held_eq (x : Side) (d : ChanState) (o : EpisodeOutcome) (s : State) :
    (leaveEpisode x d o s).held = s.held.filter fun e => e.side ≠ x := by
  unfold leaveEpisode releaseHeld; simp

/-- The link after an episode has been left (R44, R92). -/
theorem leaveEpisode_link_eq (x : Side) (d : ChanState) (o : EpisodeOutcome) (s : State) :
    (leaveEpisode x d o s).link =
      { s.link with emission := s.link.emission ++ (s.held.filter fun e => e.side = x).map HeldEntry.txn } := by
  have := congrArg State.link (leaveEpisode_withLink s.link x d o s)
  rw [withLink_same] at this; exact this

/-- The channels after a freeze release of one of them (R153). -/
theorem thawChannel_chan_eq (x : Side) (s : State) :
    (thawChannel x s).chan = s.chan.set x
      (if (s.chan.get x).state = .frozen then
        { s.chan.get x with state := if (s.shadow.get x).arm = .set then .faulted else .idle }
      else s.chan.get x) := by
  unfold thawChannel; split
  · unfold releaseFrozen; dsimp only; split <;> simp [State.modChan, State.setFrozenEpisode, State.setChan]
  · simp [State.setWait]

/-- The freeze flags after a freeze release of one channel (R151, R153). -/
theorem thawChannel_freeze_eq (x : Side) (s : State) :
    (thawChannel x s).freeze =
      if (s.chan.get x).state = .frozen then
        (if s.freeze.frozenEpisode.get x then
          { s.freeze with frozenEpisode := s.freeze.frozenEpisode.set x false }
        else s.freeze)
      else { s.freeze with wait := s.freeze.wait.set x false } := by
  unfold thawChannel; split
  · unfold releaseFrozen; dsimp only; split <;> simp [State.modChan, State.setFrozenEpisode, State.setChan]
  · simp [State.setWait]

/-- The channels after a reload has ended one of them (R97). -/
theorem reloadChannel_chan_eq (x : Side) (s : State) :
    (reloadChannel x s).chan = s.chan.set x
      (if s.inEpisode x then (s.chan.get x).left .idle else { s.chan.get x with state := .idle }) := by
  unfold reloadChannel; split
  · exact leaveEpisode_chan_eq _ _ _ _
  · rfl

/-! ## Arms and CONTROL words (chapters 2 and 6) -/

/-- An ARM request always ends in the place (R100). -/
theorem postRequest_arm (x : Side) (s : State) : postRequest x .arm s = s.setPlace x (some .arm) := by
  unfold postRequest; split <;> try rfl
  rename_i h
  cases x <;> simp [PerSide.get] at h <;> simp [State.setPlace, PerSide.set, ← h]

/-- The written head as a number (R26). -/
theorem writtenHead_val (w : Window) (v : Word) : (writtenHead w v).val = min (w.ext1.value v) 15 := by
  unfold writtenHead; split <;> simp <;> omega

/-- The written head from its value (R26). -/
theorem writtenHead_eq_of_val {h : Fin 16} {w : Window} {v} (hv : h.val = min (w.ext1.value v) 15) :
    writtenHead w v = h := by
  apply Fin.ext; rw [writtenHead_val, hv]

/-- When a CONTROL word is an ARM (R27). -/
theorem classify_arm {sh : Shadow} {h : Fin 16} (hn : ¬(sh.arm = .set ∧ sh.head = some h)) :
    classify sh h true = .arm := by
  unfold classify
  rw [if_pos rfl, if_neg]
  simpa using hn

/-- When it is a REARM (R27). -/
theorem classify_rearm {h : Fin 16} : classify ⟨some h, .set⟩ h true = .rearm := by
  unfold classify
  rw [if_pos rfl, if_pos]; simp

/-- When it is a DISARM (R27). -/
theorem classify_disarm {sh : Shadow} {h : Fin 16} (hn : sh.head = some h) : classify sh h false = .disarm := by
  unfold classify
  simp [hn]

/-- When it is a SWITCH (R27). -/
theorem classify_switch {sh : Shadow} {h : Fin 16} (hn : sh.head ≠ some h) : classify sh h false = .switch := by
  unfold classify
  simp [hn]

/-! ## Taking a write (chapter 1) -/

/-- An emission list replaced by itself. -/
theorem setEmission_same (s : State) {l : List Txn} (h : s.link.emission = l) : s.setEmission l = s := by
  subst h; rfl

/-- A block of one word for one preamplifier: its word's processing, and the word's transaction ahead of what it
releases when it is forwarded (R7, R9, R10). -/
theorem processBlock_oneWord (p : Side) (kept : BitVec 6) (a : RegAddr) (w : Word) (s : State)
    (h3 : s.link.emission = []) :
    processBlock ⟨decide (p = .a), decide (p = .b), kept, a, [w], false⟩ a [w] s none =
      ((processWord p a w s).1.setEmission
        ((if (processWord p a w s).2 = .forward then [wordTxn p kept a w] else []) ++
            (processWord p a w s).1.link.emission)) := by
  cases p
  · simp only [processBlock, processPosition, processTarget, wordTxn]
    simp only [decide_true, ↓reduceIte, reduceCtorEq, decide_false, setEmission_same s h3]
    generalize processWord Side.a a w s = r
    obtain ⟨r, d⟩ := r
    by_cases hd : d = .forward <;> simp [hd, extendRun, h3] <;>
    split <;> simp_all [State.setEmission]
  · simp only [processBlock, processPosition, processTarget, wordTxn]
    simp only [decide_true, ↓reduceIte, reduceCtorEq, decide_false, Bool.false_eq_true, setEmission_same s h3]
    generalize processWord Side.b a w s = r
    obtain ⟨r, d⟩ := r
    by_cases hd : d = .forward <;> simp [hd, extendRun, h3] <;>
    split <;> simp_all [State.setEmission]

/-- WRITE_TAKEN on such a write. -/
theorem writeTaken_oneWord {s : State} {p : Side} {kept : BitVec 6} {a : RegAddr} {w : Word}
     (h : OneWordWrite s p kept a w) :
    exec .writeTaken s = .next (
      let r := processWord p a w { s with link := { s.link with buffer := none } }
      settleUlwt (r.1.setEmission
        ((if r.2 = .forward then [wordTxn p kept a w] else []) ++ r.1.link.emission))) := by
  obtain ⟨h1, h2, h3, h4⟩ := h
  have := processBlock_oneWord p kept a w { s with link := { s.link with buffer := none } } h3
  simp only [← this]
  simp only [exec, execWriteTaken, unlessReset, h1, writeTaken, h4, h3, State.configured, h2, processWrite]
  cases p <;> simp

/-- WRITE_TAKEN on such a write whose word is forwarded. -/
theorem writeTaken_oneWord_forwarded {s : State} {p : Side} {kept : BitVec 6} {a : RegAddr} {w : Word}
     (h : OneWordWrite s p kept a w) {s2 : State}
    (hc : classifyWord p a w { s with link := { s.link with buffer := none } } = (s2, .forward)) :
    exec .writeTaken s = .next (traceWord p a (.write .forward) w (s2.setEmission
        (wordTxn p kept a w :: s2.link.emission))) := by
  rw [writeTaken_oneWord h]
  simp only [processWord, hc, ↓reduceIte]
  have : ∀ L, State.setEmission L (traceWord p a (.write .forward) w s2) =
      traceWord p a (.write .forward) w (s2.setEmission L) := by
    intro L
    have := traceWord_withLink { s2.link with emission := L } p a (.write .forward) w s2
    rw [show s2.setEmission L = State.withLink { s2.link with emission := L } s2 from rfl, this]
    simp [State.setEmission, State.withLink]
  rw [this]
  simp [settleUlwt, Link.clear]

/-- WRITE_TAKEN on such a write whose word is held, coalesced or dropped. -/
theorem writeTaken_oneWord_kept {s : State} {p : Side} {kept : BitVec 6} {a : RegAddr} {w : Word}
     (h : OneWordWrite s p kept a w) {s2 : State} {d : Disposition}
    (hd : d ≠ .forward)
    (hc : classifyWord p a w { s with link := { s.link with buffer := none } } = (s2, d))
    (hl : s2.link = { s.link with buffer := none }) :
    exec .writeTaken s = .next (traceWord p a (.write d) w (State.withLink s.link.drained s2)) := by
  rw [writeTaken_oneWord h, traceWord_withLink]
  simp only [processWord, hc, hd, ↓reduceIte]
  simp [settleUlwt, Link.clear, hl, h.2.2.1, State.setEmission, State.withLink, Link.drained]

/-- The classification of a CONTROL word. -/
theorem classifyWord_control {s : State} {p : Side} {a : RegAddr} {w : Word} {i : Fin 16} (h : ControlMatch s p a i) :
    classifyWord p a w { s with link := { s.link with buffer := none } } =
     (controlWord p (s.windows[i.val]) w { s with link := { s.link with buffer := none } }, .forward) := by
  obtain ⟨h1, h2⟩ := h
  unfold classifyWord
  rw [show State.findWindow { s with link := { s.link with buffer := none } } p a = s.findWindow p a from rfl, h1]
  simp only []
  rw [h2]

/-- A property that no change of the link touches, kept by the processing of every word and by OVERLONG_BLOCK, is kept
by a taken write. -/
theorem writeTaken_keeps {P : State → Prop} (hl : ∀ L s, P s → P (State.withLink L s))
    (hw : ∀ p a w s, s.loader.config = .configured → P s → P (processWord p a w s).1)
    (hr : ∀ p s, s.loader.config = .configured → P s → P (raiseEvent p .overlongBlock false s)) {s : State}
        (h : P s) : P (writeTaken s) := by
  have hE : ∀ l s, P s → P (s.setEmission l) := fun l s h => hl { s.link with emission := l } s h
  have hset : ∀ s, P s → P (settleUlwt s) := by
    intro s h; unfold settleUlwt; split
    · exact hl { s.link with ulwt := false } s h
    · exact h
  have htgt : ∀ p tg a w (s : State), s.loader.config = .configured → P s → P (processTarget p tg a w s).1 ∧
      (processTarget p tg a w s).1.loader.config = .configured := by
    intro p tg a w s hc h; unfold processTarget; split
    · exact ⟨hw _ _ _ _ hc h, by simpa using hc⟩
    · exact ⟨h, hc⟩
  have hpos : ∀ b a w (s : State) run, s.loader.config = .configured → P s → P
      (processPosition b a w s run).1 ∧ (processPosition b a w s run).1.loader.config = .configured := by
    intro b a w s run hc h
    have h1 := htgt .a b.toA a w (s.setEmission []) hc (hE _ _ h)
    have h2 := htgt .b b.toB a w _ h1.2 h1.1
    unfold processPosition
    dsimp only
    split
    · exact ⟨hE _ _ h2.1, h2.2⟩
    · exact ⟨hE _ _ h2.1, h2.2⟩
  have hblk : ∀ b ws a (s : State) run, s.loader.config = .configured → P s → P (processBlock b a ws s run) := by
    intro b ws
    induction ws with
    | nil => intro a s run hc h; exact hE _ _ h
    | cons w ws ih =>
      intro a s run hc h
      have := hpos b a w s run hc h
      exact ih _ _ _ this.2 this.1
  unfold writeTaken
  split
  · exact h
  · split
    · rename_i b hb he
      have h1 : P (State.withLink { s.link with buffer := none } s) := hl _ _ h
      apply hset
      split
      · exact h1
      · split
        · rename_i hc
          have hc : (State.withLink { s.link with buffer := none } s).loader.config = .configured
              := by simpa [State.configured, State.withLink] using hc
          unfold processWrite
          split
          · have hov : P (raiseOverlong b (State.withLink { s.link with buffer := none } s)) ∧
              (raiseOverlong b (State.withLink { s.link with buffer := none } s)).loader.config = .configured := by
              have a1 : P (if b.toA then raiseEvent .a .overlongBlock false
                  (State.withLink { s.link with buffer := none } s)
                  else (State.withLink { s.link with buffer := none } s)) ∧
                  (if b.toA then raiseEvent .a .overlongBlock false
                  (State.withLink { s.link with buffer := none } s)
                  else (State.withLink { s.link with buffer := none } s)).loader.config = .configured := by
                split
                · exact ⟨hr _ _ hc h1, by simpa using hc⟩
                · exact ⟨h1, hc⟩
              unfold raiseOverlong
              dsimp only
              split
              · exact ⟨hr _ _ a1.2 a1.1, by rw [raiseEvent_loader]; exact a1.2⟩
              · exact a1
            exact hblk _ _ _ _ _ hov.2 hov.1
          · exact hblk _ _ _ _ _ hc h1
        · unfold passRaw
          split
          · exact h1
          · exact hE _ _ h1
    · exact h

/-- A property kept by each thing that the processing of a word does is kept by the processing of a word (R7,
R167). -/
theorem processWord_keeps {P : State → Prop}
    (hq : ∀ r s, P s → P (queueReport r s))
    (hc : ∀ p win word s, P s → P (controlWord p win word s))
    (ho : ∀ p i h a w s, s.inEpisode p = true → P s → P (offerHeld p i h a w s).1)
    (hk : ∀ p h n v s, P s → P (captureCode p h n v s))
    (hcl : ∀ p v n s, P s → P (clearWord p v n s))
    (hi : ∀ p v s, P s → P (injectWord p v s)) (p : Side) (a : RegAddr) (w : Word) (s : State)
    (h : P s) : P (processWord p a w s).1 := by
  have hv : ∀ p i win a w s, P s → P (valueWord p i win a w s).1 := by
    intro p i win a w s h
    unfold valueWord
    split
    · exact h
    · split
      · split
        · rename_i hh
          exact ho _ _ _ _ _ _ (by simp at hh; exact hh.2) h
        · exact hk _ _ _ _ _ h
      · exact h
  have h1 : P (classifyWord p a w s).1 := by
    unfold classifyWord
    split
    · exact h
    · dsimp only
      split
      · exact hc _ _ _ _ h
      · exact hv _ _ _ _ _ _ h
      · exact hv _ _ _ _ _ _ h
      · exact hcl _ _ _ _ h
      · exact hi _ _ _ h
  unfold processWord traceWord
  dsimp only
  split
  · exact hq _ _ h1
  · exact h1

/-! ## Slot starts (chapter 9) -/

/-- What a slot start, or a part of one, is made of (R124, R125, R131): a property that each of these keeps is kept by
every SLOT_START. -/
theorem slotStart_keeps {P : State → Prop}
    (hmark : ∀ k m s, P s → P { s with framer := { s.framer with slot := k, split := m } })
    (hlatch : ∀ s, P s → P (latchSlot s)) (hcount : ∀ s, P s → P (countSlots s))
    (hframe : ∀ s, P s → P (frameStart s)) (hfix : ∀ s, P s → P (fixMap s))
    (hsend : ∀ k s, P s → P (sendSlot k s)) (part : SlotPart) (s : State) (h : P s) : P (slotStart part s) := by
  have hsplit : ∀ m s, P s → P (s.setSplit m) := fun m s h => hmark s.framer.slot m s h
  have howed : ∀ s, P s → P (takeOwed s) := by
    intro s h; unfold takeOwed; split
    · exact hsplit _ _ (hframe _ h)
    · exact h
  have hevent : ∀ s, P s → P (takeEvent s) := by
    intro s h; unfold takeEvent; split
    · exact h
    · split
      · exact hsplit _ _ (hframe _ h)
      · split
        · exact hsplit _ _ (hfix _ h)
        · exact h
  have hbegin : ∀ m s, P s → P (beginSlot m s) := fun m s h => hsend _ _ (hmark _ _ _ (hcount _ (hlatch _ h)))
  unfold slotStart
  cases part
  · exact hbegin _ _ (hevent _ (howed _ h))
  · dsimp only; split
    · exact howed _ h
    · exact hevent _ h
  · dsimp only; split
    · exact hbegin _ _ (howed _ h)
    · exact hbegin _ _ (hevent _ (howed _ h))

end Sys2Proof.Machine
end

