-- ==== Sys2Proof/Laws/Blocks.lean ====
section
/-!
SUPPORT. What the processing of a block does (R7, R9, R10): `processBlock`, which closes its runs as it goes, gives the
positions of `blockPositions` and the transactions of `blockRuns`, the forms in which the claims speak of a block.
-/

namespace Sys2Proof.Machine

/-- The transactions of the positions still to come, given the run that is open (R9). -/
def joinRun (kept : BitVec 6) (run : Option Txn) (ps : List BlockPosition) : List Txn :=
  match run with
  | none => blockRuns kept ps
  | some t =>
    match ps, blockRuns kept ps with
    | q :: _, u :: more =>
      if q.toA = t.toA ∧ q.toB = t.toB then { t with words := t.words ++ u.words } :: more else t :: u :: more
    | _, later => t :: later

/-- An open run goes to some preamplifier, with the block's kept bits. -/
def RunOpen (kept : BitVec 6) (run : Option Txn) : Prop :=
  ∀ t, run = some t → (t.toA || t.toB) = true ∧ t.kept = kept

/-- The positions do not depend on the emission list, which each word is given empty. -/
theorem blockPositions_setEmission (b : BlockWrite) (a : RegAddr) (ws : List Word) (s : State) (l : List Txn) :
    (blockPositions b a ws (s.setEmission l)).1 = (blockPositions b a ws s).1 ∧
      ∀ m, (blockPositions b a ws (s.setEmission l)).2.setEmission m = (blockPositions b a ws s).2.setEmission m := by
  cases ws <;> exact ⟨rfl, fun _ => rfl⟩

/-- A forwarded position stands at the front of the first run. -/
theorem blockRuns_front (kept : BitVec 6) (p : BlockPosition) (ps : List BlockPosition)
    (h : (p.toA || p.toB) = true) :
    ∃ ws more, blockRuns kept (p :: ps) = ⟨p.toA, p.toB, kept, p.addr, p.word :: ws⟩ :: more := by
  rw [blockRuns]
  simp only [h, if_true]
  split
  · exact ⟨[], _, rfl⟩
  · split
    · exact ⟨[], _, rfl⟩
    · split
      · exact ⟨_, _, rfl⟩
      · exact ⟨[], _, rfl⟩

/-- The runs of a block, by its first position: with no release, its run is left open for the others. -/
theorem blockRuns_cons (kept : BitVec 6) (p : BlockPosition) (ps : List BlockPosition) :
    blockRuns kept (p :: ps) =
      if p.released = [] then
        joinRun kept (if p.toA || p.toB then some ⟨p.toA, p.toB, kept, p.addr, [p.word]⟩ else none) ps
      else
        (if p.toA || p.toB then [⟨p.toA, p.toB, kept, p.addr, [p.word]⟩] else []) ++ p.released ++
          blockRuns kept ps := by
  rw [blockRuns]
  by_cases hr : p.released = []
  · simp only [hr, ne_eq, not_true_eq_false, if_false, if_true]
    by_cases hp : (p.toA || p.toB) = true
    · simp only [hp, if_true, joinRun]
      cases ps with
      | nil => simp [blockRuns]
      | cons q qs =>
        cases blockRuns kept (q :: qs) with
        | nil => simp
        | cons u more =>
          have hg : (p.goesOn (q :: qs) = true) ↔ (q.toA = p.toA ∧ q.toB = p.toB) := by
            simp only [BlockPosition.goesOn, hp]; simp
          simp [hg]
    · simp only [hp, joinRun]
      cases ps with
      | nil => simp [blockRuns]
      | cons q qs =>
        cases blockRuns kept (q :: qs) with
        | nil => simp
        | cons u more => simp [BlockPosition.goesOn, hp]
  · simp [hr]

/-- The same under an open run: the first position extends it or closes it (R9), and a release ends it (R10). -/
theorem joinRun_cons (kept : BitVec 6) (p : BlockPosition) (ps : List BlockPosition) (run : Option Txn)
    (hrun : RunOpen kept run) :
    joinRun kept run (p :: ps) =
      if p.released = [] then
        (extendRun run p.toA p.toB kept p.addr p.word).1 ++
          joinRun kept (extendRun run p.toA p.toB kept p.addr p.word).2 ps
      else
        (extendRun run p.toA p.toB kept p.addr p.word).1 ++
          (extendRun run p.toA p.toB kept p.addr p.word).2.toList ++ p.released ++ blockRuns kept ps := by
  cases run with
  | none =>
    simp only [extendRun, List.nil_append]
    show blockRuns kept (p :: ps) = _
    rw [blockRuns_cons]
    by_cases hp : (p.toA || p.toB) = true <;> simp [hp]
  | some t =>
    obtain ⟨h1, h2⟩ := hrun t rfl
    by_cases he : p.toA = t.toA ∧ p.toB = t.toB
    · have hp : (p.toA || p.toB) = true := by rw [he.1, he.2]; exact h1
      have he' : (decide (t.toA = p.toA) && decide (t.toB = p.toB)) = true := by simp [he]
      simp only [extendRun, he', if_true, List.nil_append]
      obtain ⟨ws, more, hb⟩ := blockRuns_front kept p ps hp
      have hb2 := blockRuns_cons kept p ps
      rw [hb] at hb2
      simp only [joinRun, hb, he, and_self, if_true]
      by_cases hr : p.released = []
      · simp only [hr, if_true, hp] at hb2 ⊢
        simp only [joinRun] at hb2
        revert hb2
        cases ps with
        | nil => intro hb2; simp [blockRuns] at hb2; simp [hb2, blockRuns]
        | cons q qs =>
          cases blockRuns kept (q :: qs) with
          | nil => intro hb2; simp at hb2; simp [hb2]
          | cons u later =>
            simp only [he]
            intro hb2
            by_cases hq : q.toA = t.toA ∧ q.toB = t.toB
            · simp [hq] at hb2; simp [hq, hb2]
            · simp [hq] at hb2; simp [hq, hb2]
      · simp only [hr, if_false, hp, if_true] at hb2 ⊢
        simp at hb2
        simp [hb2]
    · have he' : ¬(decide (t.toA = p.toA) && decide (t.toB = p.toB)) = true := by
        simp; intro h h'; exact he ⟨h.symm, h'.symm⟩
      simp only [extendRun]
      rw [if_neg he']
      have hclose : joinRun kept (some t) (p :: ps) = t :: blockRuns kept (p :: ps) := by
        simp only [joinRun]
        cases blockRuns kept (p :: ps) with
        | nil => rfl
        | cons u more => simp only []; rw [if_neg he]
      rw [hclose, blockRuns_cons]
      by_cases hp : (p.toA || p.toB) = true <;> simp [hp] <;> split <;> simp

/-- The run that a position leaves open is one that may be open. -/
theorem extendRun_open {kept : BitVec 6} {run : Option Txn} (hrun : RunOpen kept run) (toA toB : Bool) (a : RegAddr)
    (w : Word) : RunOpen kept (extendRun run toA toB kept a w).2 := by
  intro t
  unfold extendRun
  cases run with
  | none => dsimp only; split <;> simp; rintro rfl; rename_i h; simpa using h
  | some u =>
    dsimp only
    split
    · simp; rintro rfl; simpa using hrun u rfl
    · split <;> simp; rintro rfl; rename_i h; simpa using h

/-- Processing a block appends the transactions of its positions, after the run that is open, and leaves the state
after the last position (R7, R9, R10). -/
theorem processBlock_eq (b : BlockWrite) : ∀ (ws : List Word) (a : RegAddr) (s : State) (run : Option Txn),
    RunOpen b.kept run →
    processBlock b a ws s run = (blockPositions b a ws s).2.setEmission
      (s.link.emission ++ joinRun b.kept run (blockPositions b a ws s).1)
  | [], a, s, run, h => by cases run <;> simp [processBlock, blockPositions, joinRun, blockRuns]
  | w :: ws, a, s, run, h => by
    rw [processBlock]
    obtain ⟨ra, rb, hra, hrb⟩ : ∃ ra rb : State × Bool, ra = processTarget .a b.toA a w (s.setEmission []) ∧
      rb = processTarget .b b.toB a w ra.1 := ⟨_, _, rfl, rfl⟩
    have hbp : blockPositions b a (w :: ws) s =
        (⟨ra.2, rb.2, a, w, rb.1.link.emission⟩ :: (blockPositions b (a + 1) ws rb.1).1,
          (blockPositions b (a + 1) ws rb.1).2) := by
      let pa := if b.toA then processWord .a a w (s.setEmission []) else (s.setEmission [], .drop)
      let pb := if b.toB then processWord .b a w ra.1 else (ra.1, .drop)
      have e1 : ra.1 = pa.1 := by rw [hra]; unfold processTarget; simp only [pa]; split <;> rfl
      have e2 : rb.1 = pb.1 := by rw [hrb]; unfold processTarget; simp only [pb]; split <;> rfl
      have e3 : ra.2 = (b.toA && decide (pa.2 = .forward)) := by
        rw [hra]; unfold processTarget; simp only [pa]; split <;> simp_all
      have e4 : rb.2 = (b.toB && decide (pb.2 = .forward)) := by
        rw [hrb]; unfold processTarget; simp only [pb]; split <;> simp_all
      rw [blockPositions]
      rw [e3, e4]; simp only [pa, pb, ← e1, ← e2]
    have hpp : processPosition b a w s run =
        if rb.1.link.emission.isEmpty then
          (rb.1.setEmission (s.link.emission ++ (extendRun run ra.2 rb.2 b.kept a w).1),
            (extendRun run ra.2 rb.2 b.kept a w).2)
        else
          (rb.1.setEmission (s.link.emission ++ (extendRun run ra.2 rb.2 b.kept a w).1 ++
            (extendRun run ra.2 rb.2 b.kept a w).2.toList ++ rb.1.link.emission), none) := by
      unfold processPosition; dsimp only; rw [← hra, ← hrb]
    rw [hpp, hbp, joinRun_cons _ _ _ _ h]
    by_cases hr : rb.1.link.emission = []
    · simp only [hr, List.isEmpty_nil, if_true]
      rw [processBlock_eq b ws _ _ _ (extendRun_open h _ _ _ _), (blockPositions_setEmission b (a + 1) ws rb.1 _).1,
        (blockPositions_setEmission b (a + 1) ws rb.1 _).2]
      simp [State.setEmission]
    · have hne : ¬rb.1.link.emission.isEmpty = true := by simpa using hr
      rw [if_neg hne]
      simp only [hr, if_false]
      rw [processBlock_eq b ws _ _ none (by intro t ht; simp at ht),
        (blockPositions_setEmission b (a + 1) ws rb.1 _).1, (blockPositions_setEmission b (a + 1) ws rb.1 _).2]
      simp [State.setEmission, joinRun]

/-- The processing of a word leaves of the link everything but the emission list. -/
theorem processWord_link_eq (p : Side) (a : RegAddr) (w : Word) (s : State) :
    (processWord p a w s).1.link = { s.link with emission := (processWord p a w s).1.link.emission } := by
  have h1 := processWord_link_upstream p a w s
  have h2 := processWord_link_ulwt p a w s
  have h3 := processWord_link_ulda p a w s
  have h4 := processWord_link_buffer p a w s
  have h5 := processWord_link_sending p a w s
  have h6 := processWord_link_dlda p a w s
  generalize (processWord p a w s).1.link = l at *
  cases l; simp_all

/-- So do the positions of a block. -/
theorem blockPositions_link_eq (b : BlockWrite) : ∀ (ws : List Word) (a : RegAddr) (s : State),
    ∃ l, (blockPositions b a ws s).2.link = { s.link with emission := l }
  | [], a, s => ⟨_, rfl⟩
  | w :: ws, a, s => by
    rw [blockPositions]
    dsimp only
    obtain ⟨l, hl⟩ := blockPositions_link_eq b ws (a + 1)
      (if b.toB then
        processWord .b a w
          (if b.toA then processWord .a a w (s.setEmission []) else (s.setEmission [], .drop)).1
      else ((if b.toA then processWord .a a w (s.setEmission []) else (s.setEmission [], .drop)).1, .drop)).1
    refine ⟨l, hl.trans ?_⟩
    split <;> split
    · rw [processWord_link_eq .b, processWord_link_eq .a]; rfl
    · rw [processWord_link_eq .b]; rfl
    · rw [processWord_link_eq .a]; rfl
    · rfl

end Sys2Proof.Machine
end

