-- ==== Sys2Proof/Laws/Control.lean ====
section
/-!
SUPPORT. What a CONTROL word does to its channel (R27, R88–R91, R151), with the rest of WRITE_TAKEN told around it,
and what the freeze logic does to one channel (R150, R153).
-/

namespace Sys2Proof.Machine

/-! ## Operations that only append to the emission list -/

/-- `f` acts on the link only by appending to the emission list, and what it appends does not depend on the link. -/
def Appends (f : State → State) : Prop :=
  ∃ released : State → List Txn, (∀ l s, released (State.withLink l s) = released s) ∧
    ∀ l s, f (State.withLink l s) = State.withLink { l with emission := l.emission ++ released s } (f s)

/-- An operation that leaves the link alone. -/
theorem Appends.of_comm {f : State → State} (h : ∀ l s, f (State.withLink l s) = State.withLink l (f s)) :
    Appends f :=
  ⟨fun _ => [], fun _ _ => rfl, fun l s => by simp [h]⟩

/-- One operation after another. -/
theorem Appends.comp {f g : State → State} (hg : Appends g) (hf : Appends f) : Appends (fun s => g (f s)) := by
  obtain ⟨rf, hf1, hf2⟩ := hf
  obtain ⟨rg, hg1, hg2⟩ := hg
  refine ⟨fun s => rf s ++ rg (f s), fun l s => by simp only [hf1, hf2, hg1], fun l s => ?_⟩
  simp only [hf2, hg2, List.append_assoc]

/-- One operation or another, by a test that does not read the link. -/
theorem Appends.cond {c : State → Prop} [∀ s, Decidable (c s)] {f g : State → State}
    (hc : ∀ l s, c (State.withLink l s) ↔ c s) (hf : Appends f) (hg : Appends g) :
    Appends (fun s => if c s then f s else g s) := by
  obtain ⟨rf, hf1, hf2⟩ := hf
  obtain ⟨rg, hg1, hg2⟩ := hg
  refine ⟨fun s => if c s then rf s else rg s, fun l s => by simp only [hf1, hg1, hc], fun l s => ?_⟩
  by_cases h : c s
  · simp only [if_pos h, if_pos ((hc l s).mpr h), hf2]
  · simp only [if_neg h, if_neg (fun k => h ((hc l s).mp k)), hg2]

/-- An operation chosen by a datum that does not read the link. -/
theorem Appends.choice {α : Type} {d : State → α} {f : α → State → State}
    (hd : ∀ l s, d (State.withLink l s) = d s) (hf : ∀ a, Appends (f a)) : Appends (fun s => f (d s) s) := by
  choose r h1 h2 using hf
  refine ⟨fun s => r (d s) s, fun l s => by simp only [hd, h1], fun l s => ?_⟩
  simp only [hd, h2]

/-- Doing nothing. -/
theorem Appends.nothing : Appends (fun s => s) := .of_comm fun _ _ => rfl

/-- A raise. -/
theorem raiseEvent_appends (p : Side) (k : EventKind) (i : Bool) : Appends (raiseEvent p k i) :=
  .of_comm fun l s => raiseEvent_withLink l p k i s

/-- Leaving the episode states, which appends the released writes (R44, R92). -/
theorem leaveEpisode_appends (x : Side) (d : ChanState) (o : EpisodeOutcome) : Appends (leaveEpisode x d o) :=
  ⟨fun s => (s.held.filter fun e => e.side = x).map HeldEntry.txn, fun _ _ => rfl, fun l s =>
    leaveEpisode_withLink l x d o s⟩

/-- An episode that a CONTROL word ends (R151). -/
theorem leaveByControl_appends (x : Side) (o : EpisodeOutcome) : Appends (leaveByControl x o) := by
  let on (t : State) : State :=
    ((t.setWait x false).setFrozenEpisode x false).modChan x fun c => { c with state := .frozen }
  exact Appends.cond (c := fun s => s.freeze.wait.get x = true) (fun _ _ => Iff.rfl)
    ((Appends.of_comm (f := on) fun _ _ => rfl).comp (leaveEpisode_appends x .idle o))
    (leaveEpisode_appends x .idle o)

/-- A head change (R89, R90). -/
theorem leaveByHeadChange_appends (x : Side) : Appends (leaveByHeadChange x) :=
  (leaveByControl_appends x .abortHeadChange).comp
    (Appends.cond (c := fun s => (s.chan.get x).state.recomputes = true) (fun _ _ => Iff.rfl)
      (raiseEvent_appends x .headChangeActive false) .nothing)

/-- A DISARM in an episode state (R88). -/
theorem disarmEpisode_appends (x : Side) : Appends (disarmEpisode x) :=
  Appends.choice (d := fun s : State => (s.chan.get x).state)
    (f := fun st s => leaveByControl x (disarmOutcome st)
      (if st = .writing then raiseEvent x .disarmWhileWriting false s else s))
    (fun _ _ => rfl) fun st => (leaveByControl_appends x _).comp
      (Appends.cond (c := fun _ => st = .writing) (fun _ _ => Iff.rfl)
        (raiseEvent_appends x .disarmWhileWriting false) .nothing)

/-- An ARM that a channel in IDLE takes (R73, R74). -/
theorem takeArm_appends (x : Side) (h : Fin 16) : Appends (takeArm x h) := by
  refine Appends.choice (d := fun s : State => checkArm x h s) (f := fun r s => match r with
    | .inr head => postRequest x .arm (s.modChan x fun c => c.armed head)
    | .inl kind => (raiseEvent x kind false s).modChan x fun c => { c with state := .faulted })
    (fun _ _ => rfl) fun r => ?_
  cases r with
  | inl k =>
    exact (Appends.of_comm (f := State.modChan x fun c => { c with state := .faulted }) fun _ _ => rfl).comp
      (raiseEvent_appends x k false)
  | inr hd =>
    simp only [postRequest_arm]
    exact .of_comm fun _ _ => rfl

/-- An ARM at a channel in FAULTED (R75). -/
theorem recheckArm_appends (x : Side) (h : Fin 16) : Appends (recheckArm x h) := by
  refine Appends.choice (d := fun s : State => checkArm x h s) (f := fun r s => match r with
    | .inr _ => s
    | .inl kind => raiseEvent x kind false s) (fun _ _ => rfl) fun r => ?_
  cases r with
  | inl k => exact raiseEvent_appends x k false
  | inr hd => exact .nothing

/-- Every CONTROL effect (R27). -/
theorem deliverEffect_appends (x : Side) (e : ControlEffect) (h : Fin 16) : Appends (deliverEffect x e h) := by
  refine Appends.cond (c := fun s => s.inEpisode x = true) (fun _ _ => Iff.rfl) ?_ ?_
  · cases e
    · exact .nothing
    · exact Appends.cond (c := fun s => s.freeze.wait.get x = true) (fun _ _ => Iff.rfl)
        (leaveByHeadChange_appends x) ((takeArm_appends x h).comp (leaveByHeadChange_appends x))
    · exact disarmEpisode_appends x
    · exact leaveByHeadChange_appends x
  · refine Appends.cond (c := fun s => (s.chan.get x).state = .idle) (fun _ _ => Iff.rfl) ?_ ?_
    · cases e
      · exact .nothing
      · exact takeArm_appends x h
      · exact .nothing
      · exact .nothing
    · refine Appends.cond (c := fun s => (s.chan.get x).state = .faulted) (fun _ _ => Iff.rfl) ?_ .nothing
      cases e
      · exact .nothing
      · exact recheckArm_appends x h
      · exact .of_comm fun _ _ => rfl
      · exact .of_comm fun _ _ => rfl

/-! ## CONTROL words -/

/-- WRITE_TAKEN on a CONTROL word of one word and one target: the word is forwarded, the shadow set, and the effect
delivered, whose released writes follow the word on the emission list (R10, R26, R27). -/
theorem writeTaken_control {s : State} {p : Side} {kept : BitVec 6} {a : RegAddr} {w : Word} {i : Fin 16}
    (h1 : OneWordWrite s p kept a w) (h2 : ControlMatch s p a i) {h : Fin 16} {b : Bool} {e : ControlEffect}
    (hw : writtenHead (s.windows[i.val]) w = h) (hb : writtenArm (s.windows[i.val]) w = b)
    (he : classify (s.shadow.get p) h b = e) :
    exec .writeTaken s = .next (traceWord p a (.write .forward) w (deliverEffect p e h
      { s with
        link := s.link.forwardedWord p kept a w
        shadow := s.shadow.set p ⟨some h, if b then .set else .clear⟩ })) := by
  have hc := classifyWord_control (w := w) h2
  have hk : controlWord p (s.windows[i.val]) w { s with link := { s.link with buffer := none } } =
      deliverEffect p e h { s with
        link := { s.link with buffer := none }
        shadow := s.shadow.set p ⟨some h, if b then .set else .clear⟩ } := by
    unfold controlWord
    simp only [hw, hb, he]
  rw [hk] at hc
  rw [writeTaken_oneWord_forwarded h1 hc]
  obtain ⟨released, -, hr⟩ := deliverEffect_appends p e h
  have e1 := hr { s.link with buffer := none }
    { s with shadow := s.shadow.set p ⟨some h, if b then .set else .clear⟩ }
  have e2 := hr (s.link.forwardedWord p kept a w)
    { s with shadow := s.shadow.set p ⟨some h, if b then .set else .clear⟩ }
  simp only [State.withLink] at e1 e2
  rw [e1, e2]
  congr 2
  simp [State.setEmission, Link.forwardedWord, h1.2.2.1]

/-- The end of an episode by a CONTROL word, in one equation (R92, R151). -/
theorem leaveByControl_eq (x : Side) (o : EpisodeOutcome) (s : State) :
    leaveByControl x o s =
      let t := leaveEpisode x .idle o s
      if s.freeze.wait.get x then { t with
        freeze := { s.freeze with
          wait := s.freeze.wait.set x false, frozenEpisode := s.freeze.frozenEpisode.set x false }
        chan := t.chan.set x { t.chan.get x with state := .frozen } }
      else t := by
  have hf : (leaveEpisode x .idle o s).freeze = s.freeze := by simp
  unfold leaveByControl
  dsimp only
  split
  · simp only [State.setWait, State.setFrozenEpisode, State.modChan, State.setChan, hf]
  · rfl

/-! ## The freeze logic -/

/-- What a freeze does to one channel, in one equation (R150). -/
theorem freezeChannel_eq (x : Side) (s : State) :
    freezeChannel x s =
      if (s.chan.get x).state = .writing ∧ s.freeze.mode = .soft then
        { s with freeze := { s.freeze with wait := s.freeze.wait.set x true } }
      else if s.inEpisode x then
        { leaveEpisode x .frozen .frozen s with freeze := { s.freeze with
          wait := s.freeze.wait.set x false, frozenEpisode := s.freeze.frozenEpisode.set x true } }
      else { s with chan := s.chan.set x { s.chan.get x with state := .frozen } } := by
  have hl : leaveFrozen x s = { leaveEpisode x .frozen .frozen s with freeze := { s.freeze with
      wait := s.freeze.wait.set x false, frozenEpisode := s.freeze.frozenEpisode.set x true } } := by
    have hf : (leaveEpisode x .frozen .frozen s).freeze = s.freeze := by simp
    simp only [leaveFrozen, State.setFrozenEpisode, State.setWait, hf]
  unfold freezeChannel
  obtain ⟨st, h⟩ : ∃ st, (s.chan.get x).state = st := ⟨_, rfl⟩
  simp only [State.inEpisode, h]
  cases st <;> simp [ChanState.inEpisode, hl, State.modChan, State.setChan]
  · by_cases hs : s.freeze.mode = .soft
    · simp only [hs, if_true, State.setWait]
    · simp [hs]
  · have hc : s.chan.set x { s.chan.get x with state := .frozen } = s.chan := by
      rw [show ({ s.chan.get x with state := .frozen } : Channel) = s.chan.get x from by rw [← h]]
      exact PerSide.set_get _ _
    rw [hc]

/-- What a freeze release does to one channel, in one equation (R151, R153). -/
theorem thawChannel_eq (x : Side) (s : State) :
    thawChannel x s =
      if (s.chan.get x).state = .frozen then
        let v := { s with chan := s.chan.set x { s.chan.get x with
          state := if (s.shadow.get x).arm = .set then .faulted else .idle } }
        if s.freeze.frozenEpisode.get x then
          raiseEvent x .frozenEpisode false
            { v with freeze := { s.freeze with frozenEpisode := s.freeze.frozenEpisode.set x false } }
        else v
      else { s with freeze := { s.freeze with wait := s.freeze.wait.set x false } } := by
  unfold thawChannel releaseFrozen
  split
  · simp only [State.modChan, State.setChan, State.setFrozenEpisode]
  · rfl

end Sys2Proof.Machine
end

