-- ==== Sys2Proof/Laws/Slots.lean ====
section
/-!
SUPPORT. What a slot start does (chapter 9): the events that it takes, the state in which the slot's word is chosen,
and what the word that is sent leaves alone.
-/

namespace Sys2Proof.Machine

/-! ## Frame starts -/

/-- When a frame start falls now and is still to be taken (R125). -/
theorem State.frameNext_iff (s : State) : s.frameNext = true ↔ s.FrameStartNow := by
  simp only [State.frameNext, State.FrameStartNow, State.slotToCome]
  have h : ∀ o : Option (Fin 8), (decide (o = none) || decide (o = some 7)) = decide (nextSlot o = 0) := by decide
  cases hs : s.framer.split with
  | whole => simp only [h]; simp
  | eventTaken => simp
  | frameOwed => simp

/-- What is left of a channel by the frame starts that one slot start takes: at most two. -/
inductive FramesCounted (c : Channel) : Nat → Channel → Prop
  | zero : FramesCounted c 0 c
  | one : FramesCounted c 1 c.countFrame
  | two : FramesCounted c 2 c.countFrame.countFrame

/-- Frame starts leave everything of a channel but the dwell counter and the duration (R95, R147). -/
theorem FramesCounted.rest {c d : Channel} {n : Nat} (h : FramesCounted c n d) :
    d.state = c.state ∧ d.head = c.head ∧ d.episode = c.episode ∧ d.live = c.live ∧ d.staged = c.staged ∧
      d.firstInterval = c.firstInterval ∧ d.kickFlag = c.kickFlag ∧ d.leadTimer = c.leadTimer ∧
      d.kickTimer = c.kickTimer := by
  cases h <;> exact ⟨rfl, rfl, rfl, rfl, rfl, rfl, rfl, rfl, rfl⟩

/-- Of the record they leave everything but the duration (R95). -/
theorem FramesCounted.record {c d : Channel} {n : Nat} (h : FramesCounted c n d) :
    d.record.peak = c.record.peak ∧ d.record.early = c.record.early ∧ d.record.lenient = c.record.lenient ∧
      d.record.overlap = c.record.overlap ∧ d.record.reduced = c.record.reduced ∧
      d.record.intervals = c.record.intervals := by
  cases h <;> refine ⟨?_, ?_, ?_, ?_, ?_, ?_⟩ <;> simp only [Channel.countFrame] <;> (repeat' split) <;> rfl

/-- The duration and the dwell counter after them (R95, R147). -/
theorem FramesCounted.counts {c d : Channel} {n : Nat} (h : FramesCounted c n d) :
    d.record.duration = (if n ≠ 0 ∧ c.state.inEpisode = true then min (c.record.duration + n) 65535
      else c.record.duration) ∧
    d.dwell = (if c.state = .preheat ∨ c.state = .ready ∨ c.state = .holding then c.dwell.map (· - n)
      else c.dwell) := by
  have hd : c.state.dwells = true ↔ (c.state = .preheat ∨ c.state = .ready ∨ c.state = .holding) := by
    cases c.state <;> simp [ChanState.dwells]
  cases h with
  | zero => exact ⟨by simp, by split <;> simp⟩
  | one =>
    simp only [Channel.countFrame, hd]
    exact ⟨by by_cases h : c.state.inEpisode = true <;> simp [h, Config.durationMax], trivial⟩
  | two =>
    simp only [Channel.countFrame, hd]
    refine ⟨by by_cases h : c.state.inEpisode = true <;> simp [h, Config.durationMax]; omega, ?_⟩
    by_cases h : c.state = .preheat ∨ c.state = .ready ∨ c.state = .holding
    · simp only [h, if_true]; cases c.dwell <;> simp; omega
    · simp only [h, if_false]

/-! ## The state in which the word is chosen -/

/-- The word of slot 0 is sent ahead of its frame start (R125). -/
abbrev State.sendsAhead (s : State) (part : SlotPart) : Prop :=
  part = .word ∧ s.slotToCome = 0 ∧ s.framer.split ≠ .eventTaken

/-- The state when the events that go before the slot's word have been taken. -/
def State.eventsTaken (part : SlotPart) (s : State) : State :=
  if s.sendsAhead part then takeOwed s else takeEvent (takeOwed s)

/-- The state in which the slot's word is chosen: the events are taken, and the running slot has ended. -/
def State.beforeWord (part : SlotPart) (s : State) : State :=
  let u := countSlots (latchSlot (s.eventsTaken part))
  { u with framer := { u.framer with
      slot := some s.slotToCome
      split := if s.sendsAhead part then .frameOwed else .whole } }

/-- An owed frame start leaves the slot number, both maps and what an owner's lending depends on. -/
theorem takeOwed_eq (s : State) :
    (takeOwed s).framer.slot = s.framer.slot ∧ (takeOwed s).framer.baseMap = s.framer.baseMap ∧
      (takeOwed s).framer.effectiveMap = s.framer.effectiveMap ∧
      ((takeOwed s).framer.split = .eventTaken ↔ s.framer.split = .eventTaken) ∧
      ∀ o, effectiveOwner (takeOwed s) o = effectiveOwner s o := by
  unfold takeOwed; split
  · rename_i h
    refine ⟨rfl, rfl, rfl, by simp [h], fun o => ?_⟩
    cases o with
    | none => rfl
    | report => rfl
    | chan x => cases x <;> rfl
  · exact ⟨rfl, rfl, rfl, Iff.rfl, fun _ => rfl⟩

/-- The events change the counters of the channels and of the thermal model, the effective map and the mark, and
nothing else. -/
theorem eventsTaken_shape (part : SlotPart) (s : State) : ∃ ch th em sp, s.eventsTaken part =
    { s with chan := ch, thermal := th, framer := { s.framer with effectiveMap := em, split := sp } } := by
  unfold State.eventsTaken takeEvent takeOwed; (repeat' split) <;> exact ⟨_, _, _, _, rfl⟩

/-- The state in which the word is chosen differs only in these, the slot number and the latched drives. -/
theorem beforeWord_shape (part : SlotPart) (s : State) : ∃ ch th sl em sp dr, s.beforeWord part =
    { s with
      chan := ch
      thermal := th
      framer := { s.framer with slot := sl, effectiveMap := em, split := sp }
      drives := dr } := by
  obtain ⟨_, _, _, _, h⟩ := eventsTaken_shape part s
  unfold State.beforeWord; rw [h]; exact ⟨_, _, _, _, _, _, rfl⟩

/-- A slot start that sends a word sends the word of the slot to come, chosen in that state (R124, R133). -/
theorem slotStart_eq_sendSlot (part : SlotPart) (s : State) (hp : part ≠ .event) :
    slotStart part s = sendSlot s.slotToCome (s.beforeWord part) := by
  have hslot : nextSlot (s.eventsTaken part).framer.slot = s.slotToCome := by
    obtain ⟨_, _, _, _, h⟩ := eventsTaken_shape part s
    rw [h]; rfl
  have hbegin : ∀ mark, mark = (if s.sendsAhead part then SlotSplit.frameOwed else .whole) →
      beginSlot mark (s.eventsTaken part) = sendSlot s.slotToCome (s.beforeWord part) := by
    intro mark hm
    simp only [beginSlot, State.beforeWord, hslot, hm]
  cases part with
  | event => exact absurd rfl hp
  | whole =>
    have hn : ¬s.sendsAhead .whole := by simp [State.sendsAhead]
    rw [← hbegin .whole (by rw [if_neg hn]), State.eventsTaken, if_neg hn]; rfl
  | word =>
    by_cases h : s.sendsAhead .word
    · rw [← hbegin .frameOwed (by rw [if_pos h]), State.eventsTaken, if_pos h]
      have hc : (nextSlot s.framer.slot = 0 && decide (s.framer.split ≠ .eventTaken)) = true := by
        simpa [State.sendsAhead, State.slotToCome] using h
      simp only [slotStart, hc, if_true]
    · rw [← hbegin .whole (by rw [if_neg h]), State.eventsTaken, if_neg h]
      have hc : ¬(nextSlot s.framer.slot = 0 && decide (s.framer.split ≠ .eventTaken)) = true := by
        simpa [State.sendsAhead, State.slotToCome] using h
      simp only [slotStart, if_neg hc]

/-- The channels in that state: up to two frame starts counted, and then the slot that ended. -/
theorem beforeWord_chan (part : SlotPart) (s : State) (x : Side) :
    ∃ n d, FramesCounted (s.chan.get x) n d ∧ ((s.beforeWord part).chan.get x) = d.countSlot := by
  have howed : (takeOwed s).chan.get x = s.chan.get x ∨ (takeOwed s).chan.get x = (s.chan.get x).countFrame := by
    unfold takeOwed; split
    · right; cases x <;> rfl
    · left; rfl
  have hevent : ∀ u : State, (takeEvent u).chan.get x = u.chan.get x ∨
      (takeEvent u).chan.get x = (u.chan.get x).countFrame := by
    intro u; unfold takeEvent; (repeat' split)
    · left; rfl
    · right; cases x <;> rfl
    · left; rfl
    · left; rfl
  have hall : ∃ n, FramesCounted (s.chan.get x) n ((s.eventsTaken part).chan.get x) := by
    unfold State.eventsTaken; split
    · rcases howed with h | h <;> rw [h]
      · exact ⟨0, .zero⟩
      · exact ⟨1, .one⟩
    · rcases hevent (takeOwed s) with h' | h' <;> rcases howed with h | h <;> rw [h', h]
      · exact ⟨0, .zero⟩
      · exact ⟨1, .one⟩
      · exact ⟨1, .one⟩
      · exact ⟨2, .two⟩
  obtain ⟨n, h⟩ := hall
  exact ⟨n, _, h, by cases x <;> rfl⟩

/-- Channels are in an episode state there as they were before. -/
theorem beforeWord_inEpisode (part : SlotPart) (s : State) (x : Side) :
    (s.beforeWord part).inEpisode x = s.inEpisode x := by
  obtain ⟨n, d, hd, h⟩ := beforeWord_chan part s x
  simp only [State.inEpisode, h]
  show d.state.inEpisode = _
  rw [hd.rest.1]

/-- The effective map there: fixed anew at the start of slot 1, unless it has been fixed already (R131). -/
theorem beforeWord_effectiveMap (part : SlotPart) (s : State) :
    (s.beforeWord part).framer.effectiveMap =
      if s.slotToCome = 1 ∧ s.framer.split ≠ .eventTaken then
        Vector.ofFn fun k => effectiveOwner s (s.framer.baseMap[k.val])
      else s.framer.effectiveMap := by
  obtain ⟨o1, o2, o3, o4, o5⟩ := takeOwed_eq s
  show (s.eventsTaken part).framer.effectiveMap = _
  unfold State.eventsTaken
  by_cases h1 : s.slotToCome = 1
  · rw [if_neg (by rintro ⟨-, h, -⟩; rw [h1] at h; exact absurd h (by decide))]
    have h1' : nextSlot s.framer.slot = 1 := h1
    unfold takeEvent
    by_cases he : s.framer.split = .eventTaken
    · rw [if_pos (o4.2 he)]; simp [h1, he, o3]
    · rw [if_neg (by rw [o4]; exact he)]
      simp [o1, o2, o5, h1', h1, he, fixMap]
  · have h1' : ¬nextSlot s.framer.slot = 1 := h1
    simp only [h1, false_and, if_false]
    split
    · exact o3
    · unfold takeEvent
      simp only [o1, h1', if_false]
      (repeat' split) <;> simp [o3, frameStart]

/-- So the slot goes to the owner that the claims name (R130, R131). -/
theorem beforeWord_owner (part : SlotPart) (s : State) :
    (s.beforeWord part).framer.effectiveMap[s.slotToCome.val] = s.ownerToCome := by
  simp only [beforeWord_effectiveMap, State.ownerToCome]
  by_cases h1 : s.slotToCome = 1 ∧ s.framer.split ≠ .eventTaken
  · simp only [if_pos h1, Vector.getElem_ofFn]
    simp only [h1.1]
    show effectiveOwner s s.framer.baseMap[1] = _
    cases s.framer.baseMap[1] <;> rfl
  · simp only [h1]; rfl

end Sys2Proof.Machine
end

