-- ==== Sys2Proof/WellFormed.lean ====
section
/-!
DEFINITION. Which commands are well formed: the operand of a command that carries a control-link header has the read
flag (bit 15 of the header, R173) that the command's row names.
-/

namespace Sys2Proof

/-- The read flag of a header word: bit 15 (R173). -/
def headerReadFlag (h : Word) : Bool := h.getLsbD 15

/-- A READ_HEADER carries a read's header, and the words of a ULEN_RISE, when there are any, open with a write's
header (R3, R13). Every other operand is well formed by its type. -/
def Instr.wf : Instr → Bool
  | .readHeader h => headerReadFlag h
  | .ulenRise (h :: _) => !headerReadFlag h
  | .ulenRise [] => true
  | .ulenFall => true
  | .forwardedReadStart => true
  | .readWord _ => true
  | .readAnswerFfff => true
  | .writeTaken => true
  | .emitterSend => true
  | .transactionSent => true
  | .writeGateRise _ => true
  | .writeGateFall _ => true
  | .servoGateRise _ => true
  | .servoGateFall _ => true
  | .frzRise => true
  | .frzFall => true
  | .arbiterStart => true
  | .computationEnd => true
  | .leadExpiry _ => true
  | .kickExpiry _ => true
  | .dwellExpiry _ => true
  | .thermalExpiry => true
  | .slotStart _ => true
  | .loadNFall => true
  | .loadWord _ => true
  | .loadNRise => true
  | .rstNAssert => true
  | .rstNRelease => true
  | .gateSample _ => true
  | .loadPortArmed => true

end Sys2Proof
end

