-- ==== Sys2Proof/Tests/Slice0.lean ====
section
/-!
SUPPORT. Tests: the WellFormed smoke, one or two small steps for each command with the results of spec/'s worked
examples and tables, and, for every statement with hypotheses, a concrete state and operands that meet them (each
clause at a boundary value).
-/

namespace Sys2Proof.Tests

open Sys2Proof.Machine

/-! ## Well-formedness -/

/-- A READ_HEADER whose word has the read flag clear is ill-formed (R13, R173). -/
theorem test_wf_refuses_write_as_read_header : (Instr.readHeader 0x2000#16).wf = false := by decide

/-- A ULEN_RISE whose words open with a read's header is ill-formed (R3, R173). -/
theorem test_wf_refuses_read_as_write : (Instr.ulenRise [0xA000#16, 1#16]).wf = false := by decide

theorem test_wf_accepts :
    (Instr.readHeader 0xA000#16).wf = true ∧ (Instr.ulenRise [0x2000#16, 1#16]).wf = true ∧
      (Instr.ulenRise []).wf = true := by decide

/-- No row of the table has bits, so no word spells a command, and the queue stays as it is. -/
theorem test_no_table_word :
    decodeTableWord 16 0xFFFF = none ∧ State.reset.withFetchWord 16 0xFFFF = State.reset := ⟨rfl, rfl⟩

/-! ## States for the tests

The windows, records, plans and parameters are those of spec/'s worked examples: chapter 2 (windows 0–5), chapter 6
(record A5 and its plans), chapter 8 (the update at a glance), chapter 10 (a budget of 900). -/

/-- The windows 0–5 of the chapter 2 example, window 5 with a field of width 5 here; and, as window 7, an unprotected
OPERATING window for registers 50–60 with head base 5. -/
def windows : Vector Window 16 :=
  (((((((Vector.replicate 16 Window.disabled).set 0
    ⟨true, true, true, 0, 0, .control, false, .base 0, ⟨0, 4⟩, ⟨7, 1⟩⟩).set 1
    ⟨true, true, false, 16, 27, .threshold, true, .base 0, ⟨0, 10⟩, ⟨0, 1⟩⟩).set 2
    ⟨true, false, true, 16, 27, .threshold, true, .base 0, ⟨2, 10⟩, ⟨0, 1⟩⟩).set 3
    ⟨true, true, true, 32, 32, .operating, true, .selected, ⟨0, 10⟩, ⟨0, 1⟩⟩).set 4
    ⟨true, true, true, 40, 40, .faultStatus, false, .base 0, ⟨12, 4⟩, ⟨0, 1⟩⟩).set 5
    ⟨true, true, true, 41, 41, .faultInject, false, .base 0, ⟨0, 5⟩, ⟨0, 1⟩⟩).set 7
    ⟨true, true, true, 50, 60, .operating, false, .base 5, ⟨0, 10⟩, ⟨0, 1⟩⟩

/-- The image part of record A5 in the worked sequence of chapter 6. -/
def image : HeadImage := ⟨true, 700, 60, 6, 12, 40, 12, 96, 80⟩

/-- Record A5: T = 300, O = 620, H = 20000. -/
def record : HeadRecord := ⟨image, some 300, some 620, 20000⟩

/-- The plan of the worked case, and the one after the thermal update (chapter 7). -/
def plan : Plan := ⟨533, 611, 671, 641, 16⟩
def nextPlan : Plan := ⟨534, 612, 672, 642, 17⟩

/-- A configured part at rest: heads 5 and 7 of both sides calibrated, head 2 enabled without codes, head 4 disabled;
Q is 2 and every run count 1, so that any opposite sample is an edge. -/
def base : State :=
  let table := ((Vector.replicate 12 HeadRecord.reset).set 5 record).set 7 record |>.set 2 ⟨image, none, none, 0⟩
  { State.reset with
    loader := ⟨.configured, true, [], []⟩
    windows := windows
    heads := ⟨table, table⟩
    shadow := ⟨⟨some 5, .clear⟩, .unknown⟩
    gates := ⟨2, .both ⟨false, 1⟩, .both ⟨false, 1⟩, ⟨false, 1⟩⟩
    chan := State.reset.chan.set .a { Channel.reset with episode := 7 }
    thermal := ⟨50, 8, 4, some 50, false⟩
    budget := 900
    dwellLimit := 100
    freeze := ⟨.soft, false, .both false, .both false⟩
    watch := (Vector.replicate 4 .disabled).set 1 ⟨true, true, false, 33, 1, .both⟩
    framer := { Framer.reset with
      baseMap := (Vector.replicate 8 SlotOwner.none).set 2 (.chan .a) |>.set 3 .report |>.set 1 (.chan .b)
      effectiveMap := (Vector.replicate 8 SlotOwner.none).set 2 (.chan .a) |>.set 3 .report } }

/-- Channel A of the worked sequence in one of the episode states, episode 8 of head 5. -/
def channel (st : ChanState) : Channel where
  state := st
  head := 5
  episode := 8
  live := if st = .pending then none else some plan
  staged := none
  firstInterval := decide (st ≠ .holding)
  kickFlag := decide (st = .writing)
  leadTimer := if st = .preheat then .counting 1 else .stopped
  kickTimer := if st = .writing then .counting 1 else .stopped
  dwell := if st.dwells then some 1 else none
  record := { EpisodeRecord.cleared with intervals := if st.recomputes then 1 else 0 }

/-- The part with channel A in that state, its shadow on head 5 with the arm SET, and WGA high in WRITING. -/
def during (st : ChanState) : State :=
  { base with
    chan := base.chan.set .a (channel st)
    shadow := base.shadow.set .a ⟨some 5, .set⟩
    gates := { base.gates with wg := base.gates.wg.set .a ⟨decide (st = .writing), 1⟩ } }

/-- The part with channel A in a state outside the episodes. -/
def outside (st : ChanState) : State := { base with chan := base.chan.set .a { base.chan.a with state := st } }

/-- A write under a freeze wait. -/
def waiting : State := { during .writing with freeze := ⟨.soft, true, ⟨true, false⟩, .both false⟩ }

/-- A one-word write for A alone in the block buffer. -/
def send (a : RegAddr) (w : Word) (s : State) : State :=
  { s with link := { s.link with buffer := some ⟨true, false, 0, a, [w], false⟩ } }

/-- The state after a command. -/
def after (c : Instr) (s : State) : State :=
  match exec c s with
  | .next t => t
  | .fault _ => s
  | .refused _ => s

/-- The state with one command in the queue. -/
def queued (c : Instr) (s : State) : State := { s with pending := [c] }

/-- A held entry of A for register 32, the operating code 640 of head 5 (chapter 2, step 6). -/
def entry : HeldEntry := ⟨.a, 32, 640, 3, 5⟩

/-- Eight held entries of A, registers 16 to 23. -/
def eight : List HeldEntry := (List.range 8).map fun n => ⟨.a, BitVec.ofNat 7 (16 + n), 300, 1, 0⟩

/-- Sixteen EVENT records. -/
def sixteen : List Report := List.replicate 16 (.event .a .earlyGate false false false 0)

/-- An image that passes the four tests of R170: all zeros but for words 0 and 1 and a last word that makes the sum
0. -/
def goodImage : List Word := [1#16, 205#16] ++ List.replicate 202 0#16 ++ [65330#16]

/-! ## The plan engine's arithmetic (chapter 7, worked cases) -/

def inputs (h : Nat) : PlanInputs := { record.inputs with h := h }

theorem test_plan_warm_head : computePlan (inputs 20000) = plan ∧ computePlan (inputs 19452) = nextPlan := by decide

theorem test_plan_limits :
    computePlan (inputs 0) = ⟨540, 620, 680, 650, 40⟩ ∧
    computePlan { inputs 20000 with t := 500, o := 450, c := 600 } = ⟨500, 500, 500, 500, 16⟩ ∧
    computePlan { inputs 20000 with pf := 0 } = ⟨300, 611, 671, 641, 16⟩ ∧
    computePlan { inputs 20000 with kd := 1 } = ⟨533, 611, 612, 611, 16⟩ ∧
    computePlan { inputs 0 with o := 700 } = ⟨600, 700, 700, 700, 40⟩ := by decide

/-! ## The control link -/

/-- A fall with a transaction left on the emission list asserts ULWT (R2). -/
theorem test_ulenFall :
    (after .ulenFall base).link.ulwt = false ∧
      (after .ulenFall (base.setEmission [wordTxn .a 0 1 2])).link.ulwt = true := by decide

/-- Seventeen data words: the first 16 are kept and the write is overlong (R5). -/
theorem test_ulenRise :
    ((after (.ulenRise (0x2001#16 :: List.replicate 17 9#16)) (after .ulenFall base)).link.buffer).map
      (fun b => (b.toA, b.toB, b.addr, b.words.length, b.overlong)) = some (true, false, 1, 16, true) := by decide

/-- A single-target read is forwarded, a two-target read is answered (R13). -/
theorem test_readHeader :
    (after (.readHeader 0xA020#16) (after .ulenFall base)).link.upstream
      = .reading ⟨true, false, 0, 32, .waiting⟩ ∧
    (after (.readHeader 0xE020#16) (after .ulenFall base)).link.upstream
      = .reading ⟨true, true, 0, 32, .answered⟩ := by decide

/-- The part in a read of A at an address. -/
def reading (phase : ReadPhase) (a : RegAddr) (s : State) : State :=
  { s with link := { s.link with upstream := .reading ⟨true, false, 0, a, phase⟩ } }

theorem test_forwardedReadStart :
    (after .forwardedReadStart (reading .waiting 32 base)).link.dlda = [0xA020#16] ∧
      (after .forwardedReadStart (reading .waiting 32 base)).dlenLow = true := by decide

/-- A read of register 32 returns the held 640, not the preamplifier's 620 (chapter 2, step 6). -/
theorem test_readWord_held :
    (after (.readWord 620) (reading .forwarded 32 { during .pending with held := [entry] })).link.ulda =
        some 640 := by
  decide

/-- Pending 6 and 11, with 11 masked: a read of register 40 carries 6 in bits 15–12 (chapter 12, step 2). -/
theorem test_readWord_merged :
    (after (.readWord 0xFABC#16)
      (reading .forwarded 40 { base with events := ⟨⟨[.earlyGate, .setpointClamp], [.budgetShort]⟩, 0x0800#16⟩
          })).link.ulda
        = some 0x6ABC#16 := by decide

/-- The address after 127 is 0 (R1). -/
theorem test_readAnswerFfff :
    (after .readAnswerFfff (reading .answered 127 base)).link.ulda = some 0xFFFF#16 ∧
      (after .readAnswerFfff (reading .answered 127 base)).link.upstream =
          .reading ⟨true, false, 0, 0, .answered⟩ := by
  decide

/-- The windows of the chapter 1 example, with the CONTROL fields of chapter 2. -/
def blockWindows : Vector Window 16 :=
  ((Vector.replicate 16 Window.disabled).set 0 ⟨true, true, true, 0, 0, .control, false, .base 0, ⟨0, 4⟩, ⟨7,
      1⟩⟩).set 1
    ⟨true, true, true, 1, 12, .threshold, true, .base 0, ⟨0, 10⟩, ⟨0, 1⟩⟩

/-- The chapter 1 example before its write: A in HOLDING with head 3 and a held write of register 4, B in IDLE,
head A4
calibrated and head B4 disabled. -/
def blockState : State :=
  { base with
    windows := blockWindows
    heads := base.heads.set .a ((base.heads.a.set 4 record).set 3 record)
    chan := base.chan.set .a { channel .holding with head := 3 }
    shadow := ⟨⟨some 3, .set⟩, ⟨some 5, .clear⟩⟩
    held := [⟨.a, 4, 123, 1, 3⟩]
    link := { Link.reset with buffer := some ⟨true, true, 5, 126, [10, 11, 0x84, 310, 320], false⟩ } }

/-- The worked example of chapter 1: the emission list, the two channels and the held writes. -/
theorem test_writeTaken_block :
    (after .writeTaken blockState).link.emission =
      [⟨true, true, 5, 126, [10, 11, 0x84]⟩, ⟨true, false, 0, 4, [123]⟩, ⟨false, true, 5, 1, [310, 320]⟩] ∧
    (after .writeTaken blockState).chan.a.state = .pending ∧ (after .writeTaken blockState).chan.b.state = .faulted ∧
    ((after .writeTaken blockState).held.map fun e => (e.side, e.reg)) = [(.a, 1), (.a, 2)] :=
  ⟨by decide +kernel, by decide +kernel, by decide +kernel, by decide +kernel⟩

/-- An arm of head 5 from IDLE: PENDING under number 8, with an ARM request (chapter 6, step 1). -/
theorem test_writeTaken_arm :
    (after .writeTaken (send 0 0x85 base)).chan.a.episode = 8 ∧
      (after .writeTaken (send 0 0x85 base)).chan.a.state = .pending ∧
      (after .writeTaken (send 0 0x85 base)).engine.place.a = some .arm := by decide

theorem test_emitterSend :
    (after .emitterSend (base.setEmission [wordTxn .a 3 16 7])).link.dlda = [0x2190#16] ∧
      (after .emitterSend (base.setEmission [wordTxn .a 3 16 7])).dlenLow = true := by decide

theorem test_transactionSent :
    let s := after .emitterSend (base.setEmission [wordTxn .a 3 16 7])
    (after .transactionSent s).link.emission = [] ∧ (after .transactionSent s).link.dlda = [0x2190#16, 7#16] ∧
      (after .transactionSent s).dlenLow = false := by decide

/-! ## The gate lines and the heat channels (chapter 6, worked sequence) -/

/-- Three high samples, one low and two high with Q = 4: no run completes (R63). -/
theorem test_gateSample :
    let s := { base with gates := ⟨4, .both ⟨false, 0⟩, .both ⟨false, 0⟩, ⟨false, 0⟩⟩ }
    let hi : GateSamples := ⟨true, false, false, false, false⟩
    let lo : GateSamples := ⟨false, false, false, false, false⟩
    let three := after (.gateSample hi) (after (.gateSample hi) (after (.gateSample hi) s))
    three.gates.wg.a = ⟨false, 3⟩ ∧ (after (.gateSample lo) three).gates.wg.a = ⟨false, 0⟩ := by decide

/-- Steps 5 and 11: the first interval kicks at K, a later one at K2. -/
theorem test_writeGateRise :
    let first := after (.writeGateRise .a) (during .ready)
    let later := after (.writeGateRise .a)
      { during .holding with chan := base.chan.set .a { channel .holding with live := some nextPlan } }
    first.chan.a.planned = 671 ∧ first.chan.a.record.intervals = 1 ∧ first.gateOut .a = true ∧
      later.chan.a.planned = 642 ∧ later.chan.a.record.intervals = 2 := by decide

/-- An early gate in PREHEAT under STRICT is withheld (R81). -/
theorem test_writeGateRise_early :
    (after (.writeGateRise .a) (during .preheat)).gateOut .a = false ∧
      (after (.writeGateRise .a) (during .preheat)).events.kinds.a = [.earlyGate] ∧
      (after (.writeGateRise .a) (during .preheat)).chan.a.record.early = true := by decide

/-- Step 9: WRITING to HOLDING, planned level P. -/
theorem test_writeGateFall :
    (after (.writeGateFall .a) (during .writing)).chan.a.state = .holding ∧
      (after (.writeGateFall .a) (during .writing)).chan.a.planned = 533 ∧
      (after (.writeGateFall .a) (during .writing)).chan.a.dwell = some 100 := by decide

/-- Step 10: the staged plan goes live at the wedge. -/
theorem test_servoGateRise_swap :
    let s := { during .holding with chan := base.chan.set .a { channel .holding with staged := some nextPlan } }
    (after (.servoGateRise .a) s).chan.a.planned = 534 ∧ (after (.servoGateRise .a) s).chan.a.staged =
        none := by decide

/-- A servo gate in a write cuts it (R85). -/
theorem test_servoGateRise_overlap :
    (after (.servoGateRise .a) (during .writing)).chan.a.state = .holding ∧
      (after (.servoGateRise .a) (during .writing)).events.kinds.a = [.servoOverlap] ∧
      (after (.servoGateRise .a) (during .writing)).gateOut .a = false := by decide

theorem test_servoGateFall :
    let s := { during .writing with gates := { base.gates with sg := .both ⟨true, 1⟩ } }
    (after (.servoGateFall .a) s).gates.sg.a = ⟨false, 0⟩ ∧ (after (.servoGateFall .a) s).chan = s.chan := by decide

/-- SOFT leaves a write running under a wait and freezes an idle channel (R150). -/
theorem test_frzRise :
    (after .frzRise (during .writing)).chan.a.state = .writing ∧
        (after .frzRise (during .writing)).freeze.wait.a = true ∧
      (after .frzRise (during .writing)).chan.b.state = .frozen := by decide

/-- The part under an active freeze, channel A FROZEN with the arm SET in its shadow and a frozen episode. -/
def frozen : State :=
  { outside .frozen with
    shadow := base.shadow.set .a ⟨some 5, .set⟩
    gates := { base.gates with frz := ⟨true, 1⟩ }
    freeze := ⟨.soft, true, .both false, ⟨true, false⟩⟩ }

/-- A release with the arm SET goes to FAULTED and raises FROZEN_EPISODE (R153). -/
theorem test_frzFall :
    (after .frzFall frozen).chan.a.state = .faulted ∧ (after .frzFall frozen).events.kinds.a = [.frozenEpisode] ∧
      (after .frzFall frozen).freeze.active = false := by decide

/-- Of two RECOMPUTEs the channel not served last is chosen (R103). -/
theorem test_arbiterStart :
    let s := { during .writing with engine := ⟨none, .both (some .recompute), .a⟩ }
    (after .arbiterStart s).engine.lastServed = .b ∧ (after .arbiterStart s).engine.place =
        ⟨some .recompute, none⟩ := by
  decide

/-- A computation of the ARM of head 5, tag 8. -/
def computation : Computation := ⟨.a, .arm, 8, inputs 20000⟩

/-- Step 2: the ARM result with tag 8 gives the live plan and PREHEAT; one with tag 7 is discarded (R78). -/
theorem test_computationEnd :
    let s := { during .pending with engine := ⟨some computation, .both none, .a⟩ }
    let old := { during .pending with engine := ⟨some { computation with tag := 7 }, .both none, .a⟩ }
    (after .computationEnd s).chan.a.live = some plan ∧ (after .computationEnd s).chan.a.state = .preheat ∧
      (after .computationEnd old).chan = old.chan := by decide

/-- Step 4. -/
theorem test_leadExpiry :
    (after (.leadExpiry .a) (during .preheat)).chan.a.state = .ready ∧
      (after (.leadExpiry .a) (during .preheat)).chan.a.planned = 533 := by decide

/-- Step 7. -/
theorem test_kickExpiry : (after (.kickExpiry .a) (during .writing)).chan.a.planned = 611 := by decide

/-- DWELL_LIMIT's record comes before the episode's (R147). -/
theorem test_dwellExpiry :
    let t := after (.dwellExpiry .a) (during .ready)
    t.chan.a.state = .faulted ∧ t.events.kinds.a = [.dwellLimit] ∧
      t.reports.records = [.event .a .dwellLimit false false false 8, .episode .a 8 5 .dwell .cleared] := by decide

/-- Channel A writing with 611 emitted for head 5, at the frame start that brings the interval counter to 0. -/
def heating : State :=
  { during .writing with
    thermal := ⟨50, 8, 4, some 0, false⟩
    framer := { base.framer with level := ⟨611, 0⟩, head := ⟨5, 0⟩ } }

/-- The update at a glance (chapter 8): 20000 − 625 + 77 = 19452, and a RECOMPUTE for A. -/
theorem test_thermalExpiry :
    ((after .thermalExpiry heating).headRec .a 5).heat = 19452 ∧
      (after .thermalExpiry heating).engine.place = ⟨some .recompute, none⟩ ∧
      (after .thermalExpiry heating).thermal.counter = some 50 := by decide

/-! ## The laser bus and the supply budget -/

/-- Step 3: the first LEVEL word of A carries 533 for head 5 and loads the lead timer with 16. Chapter 10, second
worked
case: a budget of 900 with 611 emitted by the other channel leaves 289. -/
theorem test_slotStart_level_and_budget :
    let s := { during .preheat with
      chan := base.chan.set .a { channel .preheat with leadTimer := .waiting }
      framer := { base.framer with slot := some 1 } }
    let t := after (.slotStart .whole) s
    let short := after (.slotStart .whole)
      { during .ready with framer := { base.framer with slot := some 1, level := ⟨0, 611⟩ } }
    (t.framer.lbda = 0x5615#16 ∧ t.framer.lbds = 1 ∧ t.chan.a.leadTimer = .counting 16 ∧ t.chan.a.record.peak = 533) ∧
      short.framer.level = ⟨289, 611⟩ ∧ short.chan.a.record.reduced = true ∧
          short.events.kinds.a = [.budgetShort] := by
  decide

/-- The channel starved of slots of chapter 11 at the end of frame 22: in PREHEAT with a duration of 2, a dwell
count of
1, and no slot. -/
def starved : State :=
  { during .preheat with chan := base.chan.set .a { channel .preheat with
      leadTimer := .waiting
      record := { EpisodeRecord.cleared with duration := 2 } } }

/-- Frame start 23 counts, the dwell counter expires, and slot 0 of frame 23 carries the urgent OFF: a duration of 3
frames, and LEVEL 0 to A in slot 0 (chapter 11, the channel starved of slots). With the word of slot 0 taken before
the
frame start and the expiry, the urgent OFF waits for slot 1 (R148). -/
theorem test_slotStart_orders_of_parts :
    let t := after (.slotStart .word) (after (.dwellExpiry .a) (after (.slotStart .event) starved))
    let u := after (.dwellExpiry .a) (after (.slotStart .event) (after (.slotStart .word) starved))
    let v := after (.slotStart .word) u
    (t.reports.records = [.event .a .dwellLimit false false false 8,
        .episode .a 8 5 .dwell { EpisodeRecord.cleared with duration := 3 }] ∧
      t.framer.slot = some 0 ∧ t.framer.lbda = 0x4000#16 ∧ t.framer.lbds = 1 ∧ t.chan.a.state = .faulted) ∧
      u.framer.slot = some 0 ∧ u.framer.lbds = 0 ∧ u.chan.a.record.duration = 3 ∧ u.framer.urgent.a = true ∧
      v.framer.slot = some 1 ∧ v.framer.lbds = 1 := by decide

/-! ## The load port and RST_N -/

theorem test_loadNFall :
    let t := after .loadNFall (during .holding)
    t.loader.config = .loading ∧ t.chan.a.state = .idle ∧ t.shadow.a = .unknown ∧
      t.reports.records = [.episode .a 8 5 .reload { EpisodeRecord.cleared with intervals := 1 }] := by decide

theorem test_loadWord :
    (after (.loadWord 1) { State.reset with loader := ⟨.loading, true, [], []⟩ }).loader.buffer = [1#16] := by decide

/-- An image of one word is too short (R170). -/
theorem test_loadNRise_fails :
    let t := after .loadNRise { State.reset with loader := ⟨.loading, true, [1#16], []⟩ }
    t.loader.config = .unconfigured ∧ t.events.kinds = ⟨[.imageBad], [.imageBad]⟩ ∧ t.faultLow = true := by decide

theorem test_loadPortArmed : (after .loadPortArmed State.reset).loader.armed = true := by decide

theorem test_rstNAssert :
    let s := { during .writing with drives := ⟨Vector.replicate 12 7, Vector.replicate 12 0⟩ }
    (after .rstNAssert s).chan.a = .reset ∧ (after .rstNAssert s).drives = s.drives ∧
      (after .rstNAssert s).rst = true := by decide

theorem test_rstNRelease :
    (after .rstNRelease (after .rstNAssert base)).rst = false ∧
      (after (.slotStart .whole) (after .rstNRelease (after .rstNAssert base))).framer.lbda = 0x8000#16 := by decide

/-! ## Witnesses: the whole machine and RST_N

Each theorem from here on shows that the hypotheses of the statement it is named after can be met together, clause by
clause. -/

theorem witness_StepRunsFrontCommand : State.reset.pending = [] := rfl

theorem witness_EveryCommandAnswersNext :
    (after .rstNAssert base).rst = true ∧ Instr.slotStart .whole ≠ .rstNAssert ∧
        Instr.slotStart .whole ≠ .rstNRelease ∧
      Instr.slotStart .whole ≠ .ulenFall ∧ ∀ ws, Instr.slotStart .whole ≠ .ulenRise ws :=
  ⟨rfl, by decide, by decide, by decide, fun _ => by simp⟩

theorem witness_ReleaseStartsFrameAllOff :
    (SlotPart.whole ≠ .event ∧ SlotPart.word ≠ .event) ∧
    ∃ t u v w : State, exec .rstNAssert heating = .next t ∧ exec .rstNRelease t = .next u ∧
      exec (.slotStart .word) u = .next v ∧ exec (.slotStart .whole) v = .next w :=
  ⟨by decide, _, _, _, _, rfl, rfl, rfl, rfl⟩

/-! ## Witnesses: the control link -/

theorem witness_UlenFallOpensTransaction :
    (base.link.upstream = .closed ∧ base.rst = false) ∧
      (after .rstNAssert base).link.upstream = .closed ∧ (after .rstNAssert base).rst = true := by decide

theorem witness_UlenRiseClosesTransaction :
    ((after .ulenFall base).link.upstream = .opened ∧ (after .ulenFall base).link.ulwt = false) ∧
      (reading .answered 1 base).link.upstream = .reading ⟨true, false, 0, 1, .answered⟩ ∧
      (after .rstNAssert (after .ulenFall base)).link.upstream = .ignored := by decide

/-- An empty target set, {A, B} in CONFIGURED, and a read to be forwarded (A alone; {A, B} outside CONFIGURED); then a
waiting read at an empty and at a filled emission list. -/
theorem witness_ReadHeaderDecidesAnswer :
    (base.rst = false ∧ (after .ulenFall base).link.upstream = .opened ∧ (after .ulenFall base).link.ulwt = false ∧
      base.loader.config = .configured ∧ State.reset.loader.config ≠ .configured) ∧
    ((reading .waiting 1 base).link.emission = [] ∧ (reading .waiting 1 base).link.sending = false) ∧
    (reading .waiting 1 (base.setEmission [wordTxn .a 0 1 2])).link.emission ≠ [] := by decide

/-- Register 32 with its key held; register 40, a FAULT_STATUS window, with no key held; register 127, which no window
covers. -/
theorem witness_ReadWordSubstitutes :
    let s (a : RegAddr) := reading .forwarded a { during .pending with held := [entry] }
    ((s 32).rst = false ∧ (s 32).loader.config = .configured ∧
      (s 32).link.upstream = .reading ⟨true, false, 0, 32, .forwarded⟩) ∧
    (s 32).heldFor .a 32 = some entry ∧
    ((s 40).heldFor .a 40 = none ∧ (s 40).findWindow .a 40 = some 4 ∧ ((s 40).windows[4]).kind = .faultStatus) ∧
    (s 127).heldFor .a 127 = none ∧ (s 127).findWindow .a 127 = none := by decide

theorem witness_RawAndUnforwardedReadWords :
    ((reading .forwarded 1 State.reset).link.upstream = .reading ⟨true, false, 0, 1, .forwarded⟩ ∧
      (reading .forwarded 1 State.reset).loader.config ≠ .configured ∧ State.reset.rst = false) ∧
    (reading .answered 1 base).link.upstream = .reading ⟨true, false, 0, 1, .answered⟩ := by decide

theorem witness_EmptyTargetWriteDiscarded :
    let s := { base with link := { base.link with buffer := some ⟨false, false, 0, 3, [4], false⟩ } }
    s.rst = false ∧ s.link.buffer = some ⟨false, false, 0, 3, [4], false⟩ ∧ s.link.emission = [] := by decide

/-- A two-word write of A at registers 126 and 127, which no window and no watch entry covers; the same at a filled
emission list; outside CONFIGURED; a write without words; and the block of the chapter 1 example, of five words and
two
targets. -/
theorem witness_UnclassifiedWritesPassWhole :
    let b : BlockWrite := ⟨true, false, 0, 126, [4, 5], false⟩
    let s := { base with link := { base.link with buffer := some b } }
    (s.rst = false ∧ s.link.buffer = some b ∧ (s.setEmission [wordTxn .a 0 1 2]).link.emission ≠ []) ∧
    (s.link.emission = [] ∧ s.loader.config = .configured ∧ b.overlong = false ∧ b.words ≠ []) ∧
    (∀ n : Fin 2, s.findWindow .a (126 + BitVec.ofNat 7 n.val) = none ∧
      s.findWatch .a (126 + BitVec.ofNat 7 n.val) false = none) ∧
    (State.reset.loader.config ≠ .configured ∧ State.reset.link.emission = []) ∧
    { b with words := [] }.words = [] ∧ { b with words := [] }.overlong = false ∧
    (blockState.rst = false ∧ blockState.loader.config = .configured ∧ blockState.link.emission = [] ∧
      blockState.link.buffer = some ⟨true, true, 5, 126, [10, 11, 0x84, 310, 320], false⟩) := by decide

theorem witness_OverlongBlockRaisesFirst :
    let b : BlockWrite := ⟨true, true, 0, 126, List.replicate 16 4, true⟩
    let s := { base with link := { base.link with buffer := some b } }
    s.rst = false ∧ s.loader.config = .configured ∧ s.link.emission = [] ∧ s.link.buffer = some b ∧
      b.overlong = true ∧ b.toA = true := by decide

theorem witness_EmitterSendsFromTheHead :
    let s := base.setEmission [wordTxn .a 0 1 2]
    (s.rst = false ∧ s.link.emission = [wordTxn .a 0 1 2] ∧ s.dlenLow = false) ∧
      (reading .forwarded 1 s).link.upstream = .reading ⟨true, false, 0, 1, .forwarded⟩ ∧
      (after .emitterSend s).link.sending = true := by decide

/-- The emitter at work on a one-word transaction. -/
theorem witness_LinkStaysBounded :
    let s := queued .transactionSent (after .emitterSend (base.setEmission [wordTxn .a 0 1 2]))
    LinkBounded s ∧ ∃ t, step s = .next t := by
  refine ⟨⟨by decide, by decide, fun b h => ?_, fun t h => ?_, fun _ => ⟨by decide, fun r h => ?_⟩⟩, _, rfl⟩
  · cases h
  · have h' : t = wordTxn .a 0 1 2 := List.mem_singleton.1 h
    subst h'; decide
  · cases h

/-! ## Witnesses: the capture map and the CONTROL effects

Register 0 is the CONTROL register: the head in bits 3–0, the arm in bit 7. -/

theorem oneWord (s : State) (a : RegAddr) (w : Word) (h1 : s.rst = false) (h2 : s.loader.config = .configured)
    (h3 : s.link.emission = []) : OneWordWrite (send a w s) .a 0 a w := ⟨h1, h2, h3, rfl⟩

theorem witness_ControlWordSetsShadow :
    OneWordWrite (send 0 0x8F base) .a 0 0 0x8F ∧ ControlMatch (send 0 0x8F base) .a 0 0 ∧
      (windows[0]).ext2.value 0x8F ≠ 0 ∧ (windows[0]).ext2.value 0x0F = 0 :=
  ⟨oneWord _ _ _ rfl rfl rfl, ⟨by decide, by decide⟩, by decide, by decide⟩

theorem witness_ArmAcceptedFromIdle :
    let s := send 0 0x85 base
    (OneWordWrite s .a 0 0 0x85 ∧ ControlMatch s .a 0 0) ∧ (s.chan.get .a).state = .idle ∧
      (s.windows[0]).ext1.value 0x85 = (5 : Fin 12).val ∧ (s.windows[0]).ext2.value 0x85 ≠ 0 ∧
      ¬((s.shadow.get .a).arm = .set ∧ (s.shadow.get .a).head.map Fin.val = some 5) ∧
      (s.headRec .a 5).image.enabled = true ∧ (s.headRec .a 5).threshold ≠ none ∧
      (s.headRec .a 5).operating ≠ none :=
  ⟨⟨oneWord _ _ _ rfl rfl rfl, ⟨by decide, by decide⟩⟩, by decide⟩

/-- Heads 12 (BAD_HEAD), 4 (HEAD_DISABLED) and 2 (NO_CALIBRATION). -/
theorem witness_ArmRefusedFromIdle :
    let s (w : Word) := send 0 w base
    (∀ w, OneWordWrite (s w) .a 0 0 w) ∧ ControlMatch (s 0x8C) .a 0 0 ∧ (base.chan.get .a).state = .idle ∧
      ((12 : Fin 16).val = min ((windows[0]).ext1.value 0x8C) 15 ∧ 12 ≤ (12 : Fin 16).val) ∧
      ((4 : Fin 16).val = min ((windows[0]).ext1.value 0x84) 15 ∧ (base.headRec .a 4).image.enabled = false) ∧
      ((2 : Fin 16).val = min ((windows[0]).ext1.value 0x82) 15 ∧ (base.headRec .a 2).image.enabled = true ∧
        (base.headRec .a 2).threshold = none) ∧
      (base.shadow.get .a).arm ≠ .set ∧ (windows[0]).ext2.value 0x8C ≠ 0 :=
  ⟨fun _ => oneWord _ _ _ rfl rfl rfl, ⟨by decide, by decide⟩, by decide⟩

theorem witness_RearmChangesNothing :
    let s := send 0 0x85 (during .writing)
    (OneWordWrite s .a 0 0 0x85 ∧ ControlMatch s .a 0 0) ∧ s.inEpisode .a = true ∧
      s.shadow.get .a = ⟨some 5, .set⟩ ∧ (5 : Fin 16).val = min ((s.windows[0]).ext1.value 0x85) 15 ∧
      (s.windows[0]).ext2.value 0x85 ≠ 0 :=
  ⟨⟨oneWord _ _ _ rfl rfl rfl, ⟨by decide, by decide⟩⟩, by decide⟩

/-- A DISARM names head 5, the shadow's; a SWITCH names head 7; with and without a freeze wait. -/
theorem witness_DisarmAndSwitchEndEpisode :
    let s (w : Word) := send 0 w (during .writing)
    (∀ w, OneWordWrite (s w) .a 0 0 w ∧ OneWordWrite (send 0 w waiting) .a 0 0 w) ∧ ControlMatch (s 5) .a 0 0 ∧
      ControlMatch (send 0 5 waiting) .a 0 0 ∧ (during .writing).inEpisode .a = true ∧
      (during .writing).freeze.wait.get .a = false ∧ waiting.inEpisode .a = true ∧ waiting.freeze.wait.get .a = true ∧
      ((5 : Fin 16).val = min ((windows[0]).ext1.value 5) 15 ∧ (windows[0]).ext2.value 5 = 0 ∧
        ((during .writing).shadow.get .a).head = some 5) ∧
      (7 : Fin 16).val = min ((windows[0]).ext1.value 7) 15 ∧ (windows[0]).ext2.value 7 = 0 ∧
        ((during .writing).shadow.get .a).head ≠ some 7 :=
  ⟨fun _ => ⟨oneWord _ _ _ rfl rfl rfl, oneWord _ _ _ rfl rfl rfl⟩, ⟨by decide, by decide⟩, ⟨by decide, by decide⟩,
    by decide⟩

/-- Head 7, which is good; heads 12, 4 and 2, which fail each a check; an arm under a freeze wait. The head table that
the release leaves is the one before it, where nothing is held. -/
theorem witness_HeadChangeArmBeginsNewEpisode :
    let s (w : Word) := send 0 w (during .holding)
    let u (w : Word) := leaveEpisode .a .idle .abortHeadChange (raiseEvent .a .headChangeActive false (s w))
    (∀ w, OneWordWrite (s w) .a 0 0 w) ∧ ControlMatch (s 0x87) .a 0 0 ∧
      ((s 0x87).inEpisode .a = true ∧ (s 0x87).freeze.wait.get .a = false ∧ (s 0x87).reports.records.length ≤ 14) ∧
      ((7 : Fin 16).val = min ((windows[0]).ext1.value 0x87) 15 ∧ (windows[0]).ext2.value 0x87 ≠ 0 ∧
        ((s 0x87).shadow.get .a).head ≠ some 7 ∧ ((s 0x87).headRec .a 7).image.enabled = true ∧
        ((s 0x87).headRec .a 7).threshold ≠ none ∧ ((s 0x87).headRec .a 7).operating ≠ none ∧
        ((u 0x87).headRec .a 7) = (s 0x87).headRec .a 7) ∧
      ((12 : Fin 16).val = min ((windows[0]).ext1.value 0x8C) 15 ∧ 12 ≤ (12 : Fin 16).val) ∧
      ((4 : Fin 16).val = min ((windows[0]).ext1.value 0x84) 15 ∧ ((u 0x84).headRec .a 4).image.enabled = false) ∧
      ((2 : Fin 16).val = min ((windows[0]).ext1.value 0x82) 15 ∧ ((u 0x82).headRec .a 2).image.enabled = true ∧
        ((u 0x82).headRec .a 2).threshold = none) ∧
      waiting.inEpisode .a = true ∧ waiting.freeze.wait.get .a = true :=
  ⟨fun _ => oneWord _ _ _ rfl rfl rfl, ⟨by decide, by decide⟩, by decide⟩

/-- FAULTED after a bad arm of head 4 (shadow 4, SET): the arm clear, head 4 armed again, head 5 armed (the checks
pass) and head 12 armed (they fail). The same words at a channel in FROZEN and in IDLE. -/
theorem witness_FaultedChannelOnControlWords :
    let f := { outside .faulted with shadow := base.shadow.set .a ⟨some 4, .set⟩ }
    (∀ w, OneWordWrite (send 0 w f) .a 0 0 w) ∧ ControlMatch (send 0 4 f) .a 0 0 ∧
      (f.chan.get .a).state = .faulted ∧
      ((windows[0]).ext2.value 4 = 0 ∧ (windows[0]).ext2.value 0x84 ≠ 0 ∧
        (4 : Fin 16).val = min ((windows[0]).ext1.value 0x84) 15 ∧ f.shadow.get .a = ⟨some 4, .set⟩) ∧
      ((5 : Fin 16).val = min ((windows[0]).ext1.value 0x85) 15 ∧ checkArm .a 5 (send 0 0x85 f) = .inr 5) ∧
      (12 : Fin 16).val = min ((windows[0]).ext1.value 0x8C) 15 ∧ checkArm .a 12 (send 0 0x8C f) = .inl .badHead ∧
      (∀ w, OneWordWrite (send 0 w frozen) .a 0 0 w) ∧ ControlMatch (send 0 4 frozen) .a 0 0 ∧
      (frozen.chan.get .a).state = .frozen ∧
      let g := { outside .idle with shadow := base.shadow.set .a ⟨some 4, .set⟩ }
      (∀ w, OneWordWrite (send 0 w g) .a 0 0 w) ∧ ControlMatch (send 0 4 g) .a 0 0 ∧
      (g.chan.get .a).state = .idle ∧ g.shadow.get .a = ⟨some 4, .set⟩ :=
  ⟨fun _ => oneWord _ _ _ rfl rfl rfl, ⟨by decide, by decide⟩, by decide, by decide, by decide, by decide, by decide,
    fun _ => oneWord _ _ _ rfl rfl rfl, ⟨by decide, by decide⟩, rfl, fun _ => oneWord _ _ _ rfl rfl rfl,
    ⟨by decide, by decide⟩, by decide⟩

/-- Register 16 is a protected THRESHOLD register, 50 and 57 unprotected OPERATING registers that resolve to heads
5 and
12, 32 a register of the selected head. Registers 16 and 27 bound window 1, 15 and 28 lie outside every window. Fields
of bits 15–15, cut off at bit 15, and of all 16 bits. -/
theorem witness_ValueWordCapturedOrPassed :
    (OneWordWrite (send 16 300 base) .a 0 16 300 ∧ ValueMatch (send 16 300 base) .a 16 1 .threshold ∧
      resolveHead (windows[1]) 16 (base.shadow.get .a) = some 0 ∧ base.inEpisode .a = false) ∧
    (ValueMatch (send 50 600 (during .ready)) .a 50 7 .operating ∧
      resolveHead (windows[7]) 50 ((during .ready).shadow.get .a) = some 5 ∧ (windows[7]).hold = false) ∧
    (ValueMatch (send 57 600 base) .a 57 7 .operating ∧
      resolveHead (windows[7]) 57 (base.shadow.get .a) = some 12) ∧
    (base.findWindow .a 16 = some 1 ∧ base.findWindow .a 27 = some 1 ∧ base.findWindow .b 16 = some 2 ∧
      base.findWindow .a 15 = none ∧ base.findWindow .a 28 = none) ∧
    ((⟨15, 4⟩ : Extractor).effectiveWidth = 1 ∧ (⟨15, 4⟩ : Extractor).value 0x8000 = 1 ∧
      (⟨0, 16⟩ : Extractor).value 0xFFFF = 65535) ∧
    ((windows[7]).headBase = .base 5 ∧ (windows[7]).first.toNat ≤ (50#7).toNat ∧
      (windows[3]).headBase = .selected ∧ (base.shadow.get .a).head = some 5) ∧
    resolveHead (windows[3]) 32 .unknown = none ∧ Shadow.unknown.head = none :=
  ⟨⟨oneWord _ _ _ rfl rfl rfl, ⟨by decide, by decide⟩, by decide, by decide⟩,
    ⟨⟨by decide, by decide⟩, by decide, by decide⟩, ⟨⟨by decide, by decide⟩, by decide⟩, by decide⟩

/-- A two-target write of register 16 with both channels in HOLDING, protected by window 1 for A and by window 2
for B. -/
def bothHolding : State :=
  { during .holding with
    chan := ⟨channel .holding, channel .holding⟩
    link := { Link.reset with buffer := some ⟨true, true, 0, 16, [300], false⟩ } }

/-- Register 32 with no key held, with its key held, and register 24 with eight other entries held. Two targets: six
and seven entries held, and B outside the episode states. -/
theorem witness_ProtectedWordHeldCoalescedDropped :
    let s := during .holding
    (OneWordWrite (send 32 640 s) .a 0 32 640 ∧ ValueMatch (send 32 640 s) .a 32 3 .operating ∧
      (windows[3]).hold = true ∧ s.inEpisode .a = true ∧
      resolveHead (windows[3]) 32 (s.shadow.get .a) = some (5 : Fin 12).val) ∧
    (s.heldFor .a 32 = none ∧ s.held.length < 8) ∧
    State.heldFor { s with held := [entry] } .a 32 = some entry ∧
    (State.heldFor { s with held := eight } .a 24 = none ∧ 8 ≤ eight.length) ∧
    let two (l : List HeldEntry) := { bothHolding with held := l }
    (∀ l, TwoTargetWrite (two l) 0 16 300) ∧
    (ValueMatch bothHolding .a 16 1 .threshold ∧ ValueMatch bothHolding .b 16 2 .threshold) ∧
    ((windows[1]).hold = true ∧ (windows[2]).hold = true ∧ bothHolding.inEpisode .a = true ∧
      bothHolding.inEpisode .b = true ∧ resolveHead (windows[1]) 16 (bothHolding.shadow.get .a) =
          some (0 : Fin 12).val ∧
      resolveHead (windows[2]) 16 (bothHolding.shadow.get .b) = some (0 : Fin 12).val) ∧
    (∀ l ∈ [(eight.drop 2), (eight.drop 1)], (two l).heldFor .a 16 = none ∧ (two l).heldFor .b 16 = none) ∧
    ((eight.drop 2).length ≤ 6 ∧ (eight.drop 1).length = 7) ∧
    State.inEpisode { bothHolding with chan := (during .holding).chan } .b = false :=
  ⟨⟨oneWord _ _ _ rfl rfl rfl, ⟨by decide, by decide⟩, by decide, by decide, by decide⟩, by decide, by decide, by
      decide,
    fun _ => ⟨rfl, rfl, rfl, rfl⟩, ⟨⟨by decide, by decide⟩, ⟨by decide, by decide⟩⟩, by decide, by decide, by decide,
    by decide⟩

/-- A FAULT_STATUS word; injects of codes 1, 15, 0 and 16. -/
theorem witness_ClearAndInjectWords :
    (OneWordWrite (send 40 0xF000 base) .a 0 40 0xF000 ∧ (send 40 0xF000 base).findWindow .a 40 = some 4 ∧
      (windows[4]).kind = .faultStatus) ∧
    ((send 41 1 base).findWindow .a 41 = some 5 ∧ (windows[5]).kind = .faultInject) ∧
    (windows[5]).ext1.value 1 = EventKind.imageBad.code ∧ (windows[5]).ext1.value 15 = EventKind.frozenEpisode.code ∧
    (windows[5]).ext1.value 0 = 0 ∧ 15 < (windows[5]).ext1.value 16 :=
  ⟨⟨oneWord _ _ _ rfl rfl rfl, by decide, by decide⟩, by decide⟩

/-- Entry 1 watches registers 32 and 33 (one low bit ignored): both are hits, 34 and 31 are not. -/
theorem witness_WatchedWordLeavesTrace :
    (base.findWatch .a 32 false = some 1 ∧ base.findWatch .a 33 true = some 1) ∧
      base.findWatch .a 34 false = none ∧ base.findWatch .a 31 false = none := by decide

/-! ## Witnesses: held writes and the head table -/

/-- The ceiling itself and one above it. -/
theorem witness_CaptureClampsToCeiling :
    700 ≤ (base.headRec .a 5).image.ceiling ∧ (base.headRec .a 5).image.ceiling < 701 := by decide

theorem witness_ReleaseTakesEntriesInOrder :
    (∀ e ∈ base.held, e.side ≠ .a) ∧
    { base with held := [{ entry with side := .b }, entry] }.held = [{ entry with side := .b }] ++ entry :: [] ∧
    ∀ f ∈ [{ entry with side := .b }], f.side ≠ Side.a := by decide

theorem witness_LeavingIsOneAct : (during .holding).reports.records.length < 16 := by decide

theorem witness_HeldQueueStaysBounded :
    let s := queued (.writeGateRise .a) { during .holding with held := eight }
    HeldBounded s ∧ ∃ t, step s = .next t :=
  ⟨⟨by decide, by decide, by decide⟩, _, rfl⟩

theorem witness_HeadRecordPartsHaveOwners :
    (∃ t, exec .thermalExpiry heating = .next t) ∧ Instr.thermalExpiry ≠ .rstNAssert ∧
      (heating.headRec .a 5).threshold ≠ none ∧ (heating.headRec .a 5).operating ≠ none := ⟨⟨_, rfl⟩, by decide⟩

theorem witness_HeadRecordsStayInRange :
    HeadsInRange (queued .thermalExpiry heating) ∧ ∃ t, step (queued .thermalExpiry heating) = .next t := by
  refine ⟨fun x h => ?_, _, rfl⟩
  have ok : ∀ r ∈ [HeadRecord.reset, record, ⟨image, none, none, 0⟩], r.inRange := by
    intro r hr
    simp only [List.mem_cons, List.not_mem_nil, or_false] at hr
    rcases hr with rfl | rfl | rfl <;> simp [HeadRecord.inRange, HeadRecord.reset, record, image]
  apply ok
  revert h
  cases x <;> decide

/-! ## Witnesses: the gate lines and the heat channels -/

/-- A run of 0 and one of Q − 1, at Q = 2; an edge that is due and one that is not. -/
theorem witness_QualifiersFollowTheSampleTable :
    (State.reset.rst = false ∧ State.reset.gates.frz.run < State.reset.gates.q - 1) ∧
      EdgeDue base.gates.q (base.gates.wg.get .a) true ∧ ¬EdgeDue base.gates.q (base.gates.wg.get .a) false :=
  ⟨by decide, ⟨by decide, by decide⟩, fun h => absurd h.1 (by decide)⟩

theorem witness_UndeliveredEdgesOnlyQualify :
    let s := { State.reset with gates := base.gates }
    let t := { State.reset with gates := ⟨2, .both ⟨true, 1⟩, .both ⟨true, 1⟩, ⟨true, 1⟩⟩ }
    (s.rst = false ∧ s.loader.config ≠ .configured) ∧ EdgeDue s.gates.q (s.gates.wg.get .a) true ∧
      EdgeDue t.gates.q (t.gates.wg.get .a) false ∧ EdgeDue s.gates.q (s.gates.sg.get .a) true ∧
      EdgeDue s.gates.q s.gates.frz true ∧ EdgeDue t.gates.q t.gates.frz false ∧
      EdgeDue t.gates.q (t.gates.sg.get .a) false :=
  ⟨by decide, ⟨by decide, by decide⟩, ⟨by decide, by decide⟩, ⟨by decide, by decide⟩, ⟨by decide, by decide⟩,
    ⟨by decide, by decide⟩, ⟨by decide, by decide⟩⟩

/-- The configured part, a rise of WGA due in every state but WRITING, a fall due in WRITING. -/
theorem edgesOfA (st : ChanState) :
    ((during st).rst = false ∧ (during st).loader.config = .configured ∧ ((during st).chan.get .a).state = st) ∧
      (st ≠ .writing → EdgeDue (during st).gates.q ((during st).gates.wg.get .a) true) ∧
      (st = .writing → EdgeDue (during st).gates.q ((during st).gates.wg.get .a) false) ∧
      EdgeDue (during st).gates.q ((during st).gates.sg.get .a) true := by
  refine ⟨⟨rfl, rfl, rfl⟩, fun h => ⟨?_, Nat.le_refl 1⟩, fun h => ⟨?_, Nat.le_refl 1⟩,
    ⟨by simp [during, base, PerSide.both, PerSide.get], Nat.le_refl 1⟩⟩
  · simp [during, PerSide.get, PerSide.set, h]
  · simp [during, PerSide.get, PerSide.set, h]

theorem witness_WriteGateRiseBeginsInterval :
    ((during .ready).chan.get .a).state = .ready ∧ ((during .ready).chan.get .a).live = some plan ∧
      EdgeDue (during .ready).gates.q ((during .ready).gates.wg.get .a) true ∧
      (base.chan.get .a).state = .idle ∧ EdgeDue base.gates.q (base.gates.wg.get .a) true :=
  ⟨rfl, rfl, (edgesOfA .ready).2.1 (by decide), rfl, ⟨by decide, by decide⟩⟩

theorem witness_EarlyGateWithheldOrLenient :
    (((during .preheat).chan.get .a).state = .preheat ∧ (during .preheat).earlyPolicy = .strict ∧
      EdgeDue (during .preheat).gates.q ((during .preheat).gates.wg.get .a) true) ∧
      { during .preheat with earlyPolicy := .lenient }.earlyPolicy = .lenient :=
  ⟨⟨rfl, rfl, (edgesOfA .preheat).2.1 (by decide)⟩, rfl⟩

theorem witness_WriteGateFallEndsInterval :
    EdgeDue (during .writing).gates.q ((during .writing).gates.wg.get .a) false ∧
      ((during .writing).chan.get .a).state = .writing ∧ (during .writing).freeze.wait.get .a = false ∧
      waiting.freeze.wait.get .a = true ∧
      EdgeDue 2 (⟨true, 1⟩ : Qualifier) false ∧ ((outside .idle).chan.get .a).state ≠ .writing :=
  ⟨(edgesOfA .writing).2.2.1 rfl, rfl, rfl, rfl, ⟨by decide, by decide⟩, by decide⟩

theorem witness_ServoGateRiseCutsOrSwaps :
    (∀ st, EdgeDue (during st).gates.q ((during st).gates.sg.get .a) true) ∧
      (((during .writing).chan.get .a).state = .writing ∧ (during .writing).freeze.wait.get .a = false ∧
        waiting.freeze.wait.get .a = true) ∧
      ({ channel .holding with staged := some nextPlan }.staged = some nextPlan ∧ (channel .holding).staged = none) ∧
      ((during .ready).chan.get .a).state ≠ .writing ∧ ((during .ready).chan.get .a).state ≠ .holding :=
  ⟨fun st => (edgesOfA st).2.2.2, by decide, by decide, by decide, by decide⟩

/-- Timers at 1, 0, 2, waiting and stopped; a dwell count of 0, of 1 with a frame start now (to come with the slot, or
owed after its word) and without one (in slot 1, or taken already), and of 2. -/
theorem witness_TimersAndDwellExpire :
    let s (k : Fin 8) (m : SlotSplit) := { during .ready with framer := { base.framer with slot := some k, split :=
        m } }
    (((during .preheat).chan.get .a).leadTimer = .counting 1 ∧
        ((during .writing).chan.get .a).kickTimer = .counting 1 ∧
      ((during .writing).chan.get .a).live = some plan ∧ ((during .writing).chan.get .a).leadTimer = .stopped ∧
      ((during .ready).chan.get .a).kickTimer = .stopped ∧ ((during .ready).chan.get .a).dwell = some 1 ∧
      { channel .holding with dwell := some 0 }.dwell = some 0 ∧
      { channel .holding with dwell := some 2 }.dwell = some 2 ∧ ((during .writing).chan.get .a).dwell = none) ∧
    ((s 7 .whole).FrameStartNow ∧ (s 0 .frameOwed).FrameStartNow) ∧
    (¬(s 0 .whole).FrameStartNow ∧ ¬(s 7 .eventTaken).FrameStartNow) := by
  refine ⟨by decide, ⟨.inl (by decide), .inr rfl⟩, ?_, ?_⟩
  · rintro (h | h)
    · exact absurd h.1 (by decide)
    · exact absurd h (by decide)
  · rintro (h | h)
    · exact absurd h.2 (by decide)
    · exact absurd h (by decide)

theorem witness_WritingEnteredOnlyAtOwnRise :
    (∃ t, exec (.writeGateRise .b) (during .writing) = .next t) ∧ Instr.writeGateRise .b ≠ .writeGateRise .a ∧
      ¬EdgeDue (during .writing).gates.q ((during .writing).gates.wg.get .a) true :=
  ⟨⟨_, rfl⟩, by decide, fun h => absurd h.1 (by decide)⟩

theorem witness_ChannelsStayWellFormed :
    ChannelsWf (queued (.writeGateFall .a) waiting) ∧ ∃ t, step (queued (.writeGateFall .a) waiting) = .next t := by
  refine ⟨⟨fun x => ?_, fun x => ?_⟩, _, rfl⟩
  · cases x <;> simp [queued, waiting, during, base, channel, Channel.wf, PerSide.get, PerSide.set, State.reset,
      Channel.reset,
      ChanState.dwells, ChanState.recomputes, EpisodeRecord.cleared, PerSide.both]
  · cases x <;> simp [queued, waiting, during, base, channel, PerSide.get, PerSide.set, State.reset, Channel.reset,
      PerSide.both]

theorem witness_EpisodeHeadStaysShadowed :
    let s := queued (.writeGateFall .a) (during .writing)
    EpisodeShadowed s ∧ ∃ t, step s = .next t := by
  refine ⟨fun x => ?_, _, rfl⟩
  cases x <;> decide

/-- A part in LOADING, and the last state before a reload: CONFIGURED with an episode and a held write. -/
theorem witness_UnconfiguredPartStaysQuiet :
    let s := queued .loadNRise { State.reset with loader := ⟨.loading, true, [1#16], []⟩ }
    let r := queued .loadNFall { during .holding with held := [entry] }
    (HeldBounded s ∧ QuietUnconfigured s ∧ ∃ t, step s = .next t) ∧
      HeldBounded r ∧ QuietUnconfigured r ∧ ∃ t, step r = .next t := by
  refine ⟨⟨⟨by decide, by decide, by decide⟩, ⟨fun x => ?_, fun _ => ⟨fun x => ?_, ?_⟩⟩, _, rfl⟩,
    ⟨by decide, by decide, by decide⟩, ⟨fun x => ?_, fun h => absurd rfl h⟩, _, rfl⟩
  · cases x <;> decide
  · cases x <;> decide
  · decide
  · cases x <;> decide

/-- A in WRITING with the freeze mode HARD. -/
def writingHard : State := { during .writing with freeze := ⟨.hard, false, .both false, .both false⟩ }

/-- FRZ rising in SOFT and in HARD with A in WRITING, in PREHEAT, IDLE; a part in RUN; FRZ falling under an active
freeze and under none. -/
theorem witness_FreezeRisesAndFalls :
    (∀ st, (during st).rst = false ∧ (during st).loader.config = .configured ∧
      EdgeDue (during st).gates.q (during st).gates.frz true) ∧ (during .writing).freeze.mode = .soft ∧
      (writingHard.freeze.mode = .hard ∧ writingHard.reports.records.length ≤ 14 ∧ writingHard.held = []) ∧
      { base with freeze := State.reset.freeze }.freeze.mode = .run ∧
      EdgeDue frozen.gates.q frozen.gates.frz false ∧ frozen.freeze.active = true ∧
      (frozen.chan.get .a).state = .frozen ∧ frozen.freeze.frozenEpisode.get .a = true ∧
      (frozen.chan.get .b).state ≠ .frozen ∧ frozen.reports.records.length ≤ 14 ∧
      { frozen with freeze := State.reset.freeze }.freeze.active = false :=
  ⟨fun _ => ⟨rfl, rfl, by simp [during, base], Nat.le_refl 1⟩, rfl, ⟨rfl, by decide, rfl⟩, rfl,
    ⟨by decide, by decide⟩, rfl, rfl, rfl, by decide, by decide, rfl⟩

/-! ## Witnesses: the plan engine and the thermal model -/

/-- A lone request, an ARM beside a RECOMPUTE, and two of one class with the marker on the other channel. -/
theorem witness_ArbiterStartsByTheTable :
    let s (p : PerSide (Option ReqClass)) := { during .writing with engine := ⟨none, p, .b⟩ }
    ((s ⟨some .arm, none⟩).engine.unit = none ∧ (s ⟨some .arm, none⟩).engine.place.get .a = some .arm ∧
      (s ⟨some .arm, none⟩).engine.place.get .b = none) ∧
    (s ⟨some .arm, some .recompute⟩).engine.place.get (Side.a.other) = some .recompute ∧
    ((s (.both (some .recompute))).engine.place.get (Side.a.other) = some .recompute ∧
      (s (.both (some .recompute))).engine.lastServed = Side.a.other) ∧
    (during .writing).headRec .a ((during .writing).chan.get .a).head = record ∧
    record.threshold = some 300 ∧ record.operating = some 620 := by decide

theorem witness_ComputationEndDelivers :
    (computation.cls = .arm ∧ computation.tag = ((during .pending).chan.get .a).episode ∧
      ((during .pending).chan.get .a).state = .pending) ∧
    ({ computation with cls := .recompute }.tag = ((during .holding).chan.get .a).episode ∧
      ((during .holding).chan.get .a).state = .holding) ∧
    { computation with tag := 7 }.tag ≠ ((during .pending).chan.get .a).episode ∧
    ((during .writing).chan.get .a).state ≠ .pending := by decide

/-- Inputs at the ends of their ranges: a ceiling of 0 and a lead base of 1; everything at its maximum. -/
theorem witness_PlanArithmeticStaysWithinBounds :
    let low : PlanInputs := ⟨0, 0, 0, 0, 0, 0, 1, 1, 0, 0⟩
    let high : PlanInputs := ⟨1023, 1023, 1023, 255, 16, 255, 255, 255, 255, 65535⟩
    ∀ i ∈ [low, high], i.t ≤ i.c ∧ i.o ≤ i.c ∧ i.c ≤ 1023 ∧ i.kd ≤ 255 ∧ i.pf ≤ 16 ∧ i.k ≤ 255 ∧ i.lc ≤ 255 ∧
      1 ≤ i.lb ∧ i.lb ≤ 255 ∧ i.lf ≤ i.lb ∧ i.h ≤ 65535 := by decide

theorem witness_PlanFollowsHeatOneWay :
    (inputs 19452).h ≤ 20000 ∧ (inputs 255).h ≤ 255 ∧ (inputs 255).k ≤ 255 ∧ (inputs 255).lc ≤ 255 := by decide

/-- A counter of 0, and a counter of 1 ahead of the frame start to come; the charged head 5 and head 7, which is
none. -/
theorem witness_ThermalExpiryUpdatesEveryHead :
    (heating.rst = false ∧ heating.loader.config = .configured ∧ heating.thermal.counter = some 0) ∧
    ((heating.slotToCome = 0 ∧ heating.framer.split = .whole) ∧
      { heating.thermal with counter := some 1 }.takenEarly = false) ∧
    (heating.engine.place.get .a ≠ some .arm ∧ heating.engine.place.get .b ≠ some .arm) ∧
    ((heating.headRec .a 5).threshold = some 300 ∧ heating.inEpisode .a = true ∧ (heating.chan.get .a).head = 5 ∧
      heating.framer.head.get .a = 5 ∧ 300 < heating.framer.level.get .a) ∧
    (heating.chan.get .a).head ≠ 7 := by decide

/-! ## Witnesses: the laser bus, the budget, events and reports -/

/-- The slot to come is 0 (from reset), 1 and 2; nothing taken apart, the event taken, and a frame start owed. -/
theorem witness_SlotStartEndsTheRunningSlot :
    let s (k : Option (Fin 8)) (m : SlotSplit) := { base with framer := { base.framer with slot := k, split := m } }
    (base.rst = false ∧ base.loader.config = .configured ∧ State.reset.loader.config ≠ .configured) ∧
      (s none .whole).slotToCome = 0 ∧ (s (some 7) .eventTaken).slotToCome = 0 ∧
      (s (some 0) .frameOwed).slotToCome = 1 ∧ (s (some 0) .whole).slotToCome = 1 ∧
          (s (some 1) .whole).slotToCome = 2 := by
  decide

/-- Outside CONFIGURED; both OFFs pending; A's alone; then, with none pending, a REPORT slot with and without a
record, a
NONE slot and a slot of an idle channel. Two parts of a slot start send a word. -/
theorem witness_SlotWordsOtherThanLevel :
    let s (k : Fin 8) := { base with framer := { base.framer with slot := some k } }
    (SlotPart.whole ≠ .event ∧ SlotPart.word ≠ .event) ∧ State.reset.loader.config ≠ .configured ∧
    ({ base.framer with urgent := .both true }.urgent.a = true ∧
      { base.framer with urgent := ⟨true, false⟩ }.urgent.get (Side.a.other) = false) ∧
    (base.loader.config = .configured ∧ base.framer.urgent.a = false ∧ base.framer.urgent.b = false) ∧
    ((s 2).ownerToCome = .report ∧ base.reports.records = [] ∧ sixteen ≠ []) ∧
    (s 3).ownerToCome = .none ∧ ((s 1).ownerToCome = .chan .a ∧ (s 1).inEpisode .a = false) := by decide

/-- A waiting lead timer, and a level above what a budget of 900 with 611 emitted leaves; slot 2 is A's, and slot
1, of
the quiet B, is lent to A. -/
theorem witness_LevelWordWithinBudget :
    let s (k : Fin 8) := { during .preheat with framer := { base.framer with slot := some k, level := ⟨0, 611⟩ } }
    let q := { during .preheat with framer := { base.framer with slot := some 0 } }
    ((s 1).rst = false ∧ (s 1).loader.config = .configured ∧ (s 1).framer.urgent.a = false ∧
      (s 1).framer.urgent.b = false ∧ (s 1).ownerToCome = .chan .a ∧ (s 1).inEpisode .a = true) ∧
    q.ownerToCome = .chan .a ∧ SlotPart.word ≠ .event ∧
    min ((s 1).chan.get .a).planned ((s 1).budget - (s 1).framer.level.get .b) < ((s 1).chan.get .a).planned ∧
    { channel .preheat with leadTimer := .waiting }.leadTimer = .waiting ∧ (channel .writing).live = some plan := by
  decide

theorem witness_EmissionStaysSafe :
    EmissionSafe heating ∧ (∃ t, exec (.slotStart .whole) heating = .next t) ∧ Instr.slotStart .whole ≠ .loadNRise ∧
      base.framer.level.a = 0 ∧ base.framer.level.b = 0 := by
  refine ⟨⟨by decide, fun x => ?_⟩, ⟨_, rfl⟩, by decide⟩
  cases x <;> decide

/-- Fifteen records and sixteen. -/
theorem witness_RaisesAndTheFullQueue :
    { base with reports := ⟨sixteen.tail, 0⟩ }.reports.records.length < 16 ∧
      16 ≤ { base with reports := ⟨sixteen, 0⟩ }.reports.records.length ∧
      ∀ p i a m n, Report.trace 0 .a 1 .read 2 ≠ .event p .reportOverflow i a m n :=
  ⟨by decide, by decide, fun _ _ _ _ _ => by simp⟩

theorem witness_ReportQueueStaysBoundedAndInOrder :
    let s := queued (.slotStart .whole) { base with reports := ⟨sixteen, 1⟩ }
    ReportsBounded s ∧ (∃ t, step s = .next t) ∧ (∃ t, exec (.slotStart .whole) s = .next t) ∧
      Instr.slotStart .whole ≠ .rstNAssert ∧ ∀ part, Instr.loadNFall ≠ .slotStart part :=
  ⟨⟨by decide, Nat.le_refl 2⟩, ⟨_, rfl⟩, ⟨_, rfl⟩, by decide, fun _ => by simp⟩

/-- A set whose every kind is masked, and one with an unmasked lowest kind. -/
theorem witness_MergedCodeAndFaultLine :
    ((0x0800#16).getLsbD EventKind.setpointClamp.code = true ∧ EventKind.setpointClamp ≠ .imageBad) ∧
      (0x0800#16).getLsbD EventKind.earlyGate.code = false ∧
      EventKind.earlyGate.code ≤ EventKind.setpointClamp.code := by decide

/-! ## Witnesses: the load port and the formats -/

/-- A port that is not armed, an armed one, LOADING with 204 and with 205 words, and CONFIGURED with one episode,
with and without a held write of head 5. -/
theorem witness_LoadBeginsAndTakesWords :
    (State.reset.rst = false ∧ State.reset.loader.armed = false) ∧
    ({ State.reset with loader := ⟨.unconfigured, true, [], []⟩ }.loader.armed = true) ∧
    (goodImage.dropLast.length < 205 ∧ ¬goodImage.length < 205) ∧
    ((during .holding).loader.armed = true ∧ (during .holding).loader.config = .configured ∧
      (during .holding).reports.records.length ≤ 14 ∧ (during .holding).held = [] ∧
      (during .holding).inEpisode .a = true ∧ (during .holding).inEpisode .b = false) ∧
    (∀ e ∈ [entry], ¬(e.side = .a ∧ e.head = 7 ∧ (during .holding).inEpisode .a = true)) := by decide +kernel

/-- An image that passes, with the qualified FRZ level LOW and HIGH, and one that fails. -/
theorem witness_LoadEndsByValidation :
    let m (n : Nat) : Nat := (goodImage.getD n 0).toNat
    (goodImage.length = 205 ∧ m 0 = 1 ∧ m 1 = 205 ∧ (goodImage.map BitVec.toNat).sum % 65536 = 0) ∧
      [1#16].length ≠ 205 ∧ (base.gates.frz.level = false ∧ frozen.gates.frz.level = true) := by decide +kernel

/-- Kind codes 0 and 4, head bases 0, 11 and 12, direction codes 0, 1 and 2. -/
theorem witness_WindowsAndWatchDecode :
    (0x8000#16).toNat / 2 ^ 10 % 8 = 0 ∧ (0x9000#16).toNat / 2 ^ 10 % 8 = 4 ∧
      (0x0B00#16).toNat / 2 ^ 8 % 16 = (11 : Fin 12).val ∧ 12 ≤ (0x0C00#16).toNat / 2 ^ 8 % 16 ∧
      (0x0020#16).toNat / 16 % 4 = 2 ∧ (0x0010#16).toNat / 16 % 4 = 1 ∧ (0#16).toNat / 16 % 4 = 0 := by decide

theorem witness_FormatsReadBack :
    (Report.episode .b 255 11 .reload ⟨255, 1023, 65535, true, true, true, true⟩).fits ∧
      (Report.event .b .frozenEpisode true true true 255).fits ∧ (Report.trace 3 .b 127 .read 0xFFFF).fits :=
  ⟨⟨by decide, by decide, by decide⟩, trivial, trivial⟩

end Sys2Proof.Tests
end

section
/-!
PROOFS. The control link (chapter 1): when a received write is taken, and the write that no preamplifier is to receive.
-/

namespace Sys2Proof.Machine

/-! ## Rules of the link's operations -/

/-- Out of RST_N a command acts as its operation says. -/
theorem unlessReset_of_rst_low {s : State} (f : State → State) (hrst : s.rst = false) : unlessReset f s = f s := by
  simp [unlessReset, hrst]

/-- The link is clear when nothing waits downstream and no write is buffered (R2). -/
@[simp] theorem Link.clear_iff (l : Link) : l.clear = true ↔ l.emission = [] ∧ l.buffer = none := by
  simp [Link.clear]

/-- On a clear link ULWT is released (R2). -/
theorem settleUlwt_of_clear {s : State} (hclear : s.link.clear = true) :
    settleUlwt s = { s with link := { s.link with ulwt := false } } := if_pos hclear

/-- At an empty emission list the buffered write leaves the buffer and goes by its target set and the configuration
state (R4, R6, R17). -/
theorem writeTaken_of_buffered {s : State} {b : BlockWrite} (hbuf : s.link.buffer = some b)
    (hempty : s.link.emission = []) :
    writeTaken s =
      settleUlwt
        (if !b.toA && !b.toB then s.withLink { s.link with buffer := none }
        else if s.configured then processWrite b (s.withLink { s.link with buffer := none })
        else passRaw b (s.withLink { s.link with buffer := none })) := by
  simp only [writeTaken, hbuf, hempty, List.isEmpty_nil, ↓reduceIte]
  rfl

/-- With an empty target set, all that is left of the write is the drained link (R6): neither the words nor the
configuration state are looked at. -/
theorem writeTaken_of_no_target {s : State} {b : BlockWrite} (hbuf : s.link.buffer = some b)
    (hA : b.toA = false) (hB : b.toB = false) (hempty : s.link.emission = []) :
    writeTaken s = s.withLink s.link.drained := by
  have hnone : (!b.toA && !b.toB) = true := by simp [hA, hB]
  have hclear : (s.withLink { s.link with buffer := none }).link.clear = true :=
    (Link.clear_iff _).mpr ⟨hempty, rfl⟩
  rw [writeTaken_of_buffered hbuf hempty, if_pos hnone, settleUlwt_of_clear hclear]
  rfl

/-! ## The obligation -/

/-- Settles O11: the write's empty target set decides its fate before anything else about it is read. -/
theorem emptyTargetWriteDiscarded : Obligations.EmptyTargetWriteDiscarded := by
  intro s b hrst hbuf hA hB hempty
  calc exec .writeTaken s
      = .next (unlessReset writeTaken s) := rfl
    _ = .next (writeTaken s) := by rw [unlessReset_of_rst_low writeTaken hrst]
    _ = .next (s.withLink s.link.drained) := by rw [writeTaken_of_no_target hbuf hA hB hempty]

end Sys2Proof.Machine
end

section
/-!
PROOFS. The head table (chapter 4): what a capture stores in a record.
-/

namespace Sys2Proof.Machine

/-! ## Rules of the capture -/

/-- A value at or below the record's ceiling is stored as it is, and no event is raised (R53). -/
theorem captureCode_of_le_ceiling {s : State} {x : Side} {h : Fin 12} (n : CodeName) {v : Nat}
    (hle : v ≤ (s.headRec x h).image.ceiling) :
    captureCode x h n v s = s.setHead x h ((s.headRec x h).withCode n v) := if_pos hle

/-- A value above the record's ceiling is stored as the ceiling, under a SETPOINT_CLAMP (R53). -/
theorem captureCode_of_ceiling_lt {s : State} {x : Side} {h : Fin 12} (n : CodeName) {v : Nat}
    (hlt : (s.headRec x h).image.ceiling < v) :
    captureCode x h n v s = raiseEvent x .setpointClamp false
      (s.setHead x h ((s.headRec x h).withCode n (s.headRec x h).image.ceiling)) := if_neg (Nat.not_le.mpr hlt)

/-- A record that is stored is the record that is read back. -/
theorem headRec_setHead_same (s : State) (x : Side) (h : Fin 12) (r : HeadRecord) :
    (s.setHead x h r).headRec x h = r := by
  rw [headRec_setHead, if_pos ⟨rfl, rfl⟩]

/-- Storing a record leaves every other record of both sides alone. -/
theorem headRec_setHead_of_ne (s : State) {x y : Side} {h g : Fin 12} (r : HeadRecord) (hne : (y, g) ≠ (x, h)) :
    (s.setHead x h r).headRec y g = s.headRec y g := by
  rw [headRec_setHead, if_neg fun ⟨hy, hg⟩ => hne (Prod.ext hy hg)]

/-! ## The obligation -/

/-- Settles O27, for each of the two codes: the two sides of the ceiling, then the stored record and the others. -/
theorem captureClampsToCeiling : Obligations.CaptureClampsToCeiling := by
  intro s x h n v
  cases n with
  | threshold | operating =>
    exact ⟨captureCode_of_le_ceiling _, captureCode_of_ceiling_lt _,
      fun _ => headRec_setHead_same .., fun _ _ _ hne => headRec_setHead_of_ne s _ hne⟩

end Sys2Proof.Machine
end

section
/-!
PROOFS. The heat channels (chapter 6): the CONTROL word that arms the shadow's own head again.
-/

namespace Sys2Proof.Machine

/-! ## Rules of the REARM -/

/-- A channel in an episode state answers a REARM with nothing (R91). -/
theorem deliverEffect_rearm_of_inEpisode {s : State} {x : Side} {h : Fin 16} (hepisode : s.inEpisode x = true) :
    deliverEffect x .rearm h s = s := if_pos hepisode

/-- The written arm is SET when extractor 2 gives a nonzero value (R26). -/
theorem writtenArm_of_ne_zero {w : Window} {v : Word} (hv : w.ext2.value v ≠ 0) : writtenArm w v = true :=
  decide_eq_true hv

/-- Writing to a side what stands there leaves the pair as it is. -/
theorem set_eq_self_of_get_eq {α : Type} {v : PerSide α} {x : Side} {y : α} (hget : v.get x = y) : v.set x y = v := by
  rw [← hget, PerSide.set_get]

/-! ## The obligation -/

/-- Settles O19: the word is a REARM, whose effect is none, and the shadow it sets (R26) is the shadow that stood
there, so forwarding and trace are all that is left of it. -/
theorem rearmChangesNothing : Obligations.RearmChangesNothing := by
  intro s p kept a w i h hwrite hmatch hepisode hshadow hhead harm
  have hrearm : classify (s.shadow.get p) h true = .rearm := by rw [hshadow, classify_rearm]
  have hkept : s.shadow.set p ⟨some h, .set⟩ = s.shadow := set_eq_self_of_get_eq hshadow
  rw [writeTaken_control hwrite hmatch (writtenHead_eq_of_val hhead) (writtenArm_of_ne_zero harm) hrearm,
    if_pos rfl, hkept, deliverEffect_rearm_of_inEpisode]
  exact hepisode

end Sys2Proof.Machine
end

section
/-!
PROOFS. The plan engine (chapter 7): what a plan does when only the heat of its head changes.
-/

namespace Sys2Proof.Machine

/-! ## Rules of the arithmetic under a rise of H

The heat enters a plan at two places only, the compensation and the credit; each value then follows the one it is
formed from, in the order of R108–R112. -/

/-- A product with the heat, divided as in R108 and R112, cannot fall. -/
theorem heat_share_mono {h h' : Nat} (hle : h ≤ h') (gain : Nat) : h * gain / 65536 ≤ h' * gain / 65536 :=
  Nat.div_le_div_right (Nat.mul_le_mul_right gain hle)

/-- S falls with the compensation (R109): the span is the same, so the heat reduction cannot shrink. -/
theorem sustain_le_of_heat_le {i : PlanInputs} {h : Nat} (hle : i.h ≤ h) :
    { i with h := h }.sustain ≤ i.sustain := by
  have hreduction : i.span * i.compensation / 1024 ≤ i.span * { i with h := h }.compensation / 1024 :=
    Nat.div_le_div_right (Nat.mul_le_mul_left i.span (heat_share_mono hle i.k))
  exact Nat.sub_le_sub_left hreduction (i.t + i.span)

/-- A kick above S follows S, on either side of R110's test of the span. -/
theorem kickBy_le_of_heat_le {i : PlanInputs} {h : Nat} (hle : i.h ≤ h) (delta : Nat) :
    { i with h := h }.kickBy delta ≤ i.kickBy delta := by
  have hsustain : { i with h := h }.sustain ≤ i.sustain := sustain_le_of_heat_le hle
  by_cases hspan : 0 < i.span
  · calc { i with h := h }.kickBy delta
        = min ({ i with h := h }.sustain + delta) i.c := if_pos hspan
      _ ≤ min (i.sustain + delta) i.c := min_le_min_right i.c (Nat.add_le_add_right hsustain delta)
      _ = i.kickBy delta := (if_pos hspan).symm
  · calc { i with h := h }.kickBy delta
        = { i with h := h }.sustain := if_neg hspan
      _ ≤ i.sustain := hsustain
      _ = i.kickBy delta := (if_neg hspan).symm

/-- P follows S (R111). -/
theorem preheat_le_of_heat_le {i : PlanInputs} {h : Nat} (hle : i.h ≤ h) :
    { i with h := h }.preheat ≤ i.preheat := by
  have hmargin : { i with h := h }.sustain - i.t ≤ i.sustain - i.t :=
    Nat.sub_le_sub_right (sustain_le_of_heat_le hle) i.t
  exact Nat.add_le_add_left (Nat.div_le_div_right (Nat.mul_le_mul_right i.pf hmargin)) i.t

/-- L falls with the credit, down to Lf (R112). -/
theorem lead_le_of_heat_le {i : PlanInputs} {h : Nat} (hle : i.h ≤ h) : { i with h := h }.lead ≤ i.lead :=
  max_le_max_left i.lf (Nat.sub_le_sub_left (heat_share_mono hle i.lc) i.lb)

/-! ## Rules of the cold head -/

/-- A product of two values of at most 255 stays below the divisor of R108 and R112. -/
theorem heat_share_of_cold {h gain : Nat} (hheat : h ≤ 255) (hgain : gain ≤ 255) : h * gain / 65536 = 0 :=
  Nat.div_eq_of_lt <| calc h * gain
      ≤ 255 * 255 := Nat.mul_le_mul hheat hgain
    _ < 65536 := by decide

/-- Two heats with the same compensation and the same credit give the same plan: no step of R109–R112 looks at H. -/
theorem computePlan_eq_of_heat_shares_eq {i : PlanInputs} {h : Nat}
    (hcompensation : i.compensation = { i with h := h }.compensation) (hcredit : i.credit = { i with h := h }.credit) :
    computePlan i = computePlan { i with h := h } := by
  have hspan : i.span = { i with h := h }.span := rfl
  simp only [computePlan, PlanInputs.preheat, PlanInputs.kickBy, PlanInputs.sustain, PlanInputs.lead, hcompensation,
    hcredit, hspan]

/-- At an H of at most 255 both shares of the heat are 0, as they are at an H of 0 (R121). -/
theorem computePlan_of_cold {i : PlanInputs} (hheat : i.h ≤ 255) (hgain : i.k ≤ 255) (hlead : i.lc ≤ 255) :
    computePlan i = computePlan { i with h := 0 } :=
  computePlan_eq_of_heat_shares_eq
    ((heat_share_of_cold hheat hgain).trans (heat_share_of_cold (Nat.zero_le 255) hgain).symm)
    ((heat_share_of_cold hheat hlead).trans (heat_share_of_cold (Nat.zero_le 255) hlead).symm)

/-! ## The obligation -/

/-- Settles O48: value by value in the order the engine forms them, then the cold head. -/
theorem planFollowsHeatOneWay : Obligations.PlanFollowsHeatOneWay :=
  ⟨fun i _ hle =>
    ⟨heat_share_mono hle i.k, heat_share_mono hle i.lc, sustain_le_of_heat_le hle, kickBy_le_of_heat_le hle i.kd,
      kickBy_le_of_heat_le hle (i.kd / 2), preheat_le_of_heat_le hle, lead_le_of_heat_le hle⟩,
    fun _ hheat hgain hlead => computePlan_of_cold hheat hgain hlead⟩

end Sys2Proof.Machine
end

section
/-!
PROOFS. What one command does, told once for all claims of the steps: the state that a command answers, and the acts
that the commands are made of. A property that each act keeps is kept by every command.
-/

namespace Sys2Proof.Machine

/-! ## The answer of a command -/

/-- The state that a command answers. -/
def effect (c : Instr) (s : State) : State :=
  match exec c s with
  | .next t => t
  | .fault _ => s
  | .refused _ => s

/-- Every command answers a next state. -/
theorem exec_eq_next (c : Instr) (s : State) : exec c s = .next (effect c s) := by cases c <;> rfl

/-- The state in an answer is the command's effect. -/
theorem effect_eq_of_exec {c : Instr} {s t : State} (h : exec c s = .next t) : t = effect c s := by
  simpa [exec_eq_next] using h.symm

/-- A command completes with whatever holds of its effect. -/
theorem completes_of_effect {c : Instr} {s : State} {P : State → Prop} (h : P (effect c s)) : Completes c s P :=
  ⟨effect c s, exec_eq_next c s, h⟩

/-- Under RST_N nothing happens, and otherwise what the operation does. -/
theorem unlessReset_keeps {P : State → Prop} {f : State → State} {s : State} (h : P s) (hf : P (f s)) :
    P (unlessReset f s) := by
  unfold unlessReset
  split
  · exact h
  · exact hf

/-- A property that does not read the queue and that every command keeps is kept by every step. -/
theorem keptByStep_of_effect {P : State → Prop} (hqueue : ∀ q s, P s → P { s with pending := q })
    (heffect : ∀ c s, P s → P (effect c s)) : KeptByStep P := by
  intro s t h hstep
  unfold step at hstep
  split at hstep
  · cases hstep; exact h
  · rw [effect_eq_of_exec hstep]
    exact heffect _ _ (hqueue _ _ h)

/-! ## Edges -/

/-- An edge is taken by its qualifier, and in CONFIGURED its receiver acts on it (R61, R64). -/
theorem takeEdge_keeps {P : State → Prop} {due : Bool} {level deliver : State → State} {s : State} (h : P s)
    (hlevel : P (level s)) (hdeliver : (level s).loader.config = .configured → P (level s) → P (deliver (level s))) :
    P (takeEdge due level deliver s) := by
  unfold takeEdge deliverEdge
  split
  · split
    · rename_i hc
      exact hdeliver (by simpa [State.configured] using hc) hlevel
    · exact hlevel
  · exact h

/-! ## The link commands that change nothing but the link -/

theorem settleUlwt_changes_link (s : State) : ∃ l, settleUlwt s = s.withLink l := by
  unfold settleUlwt
  split
  · exact ⟨_, rfl⟩
  · exact ⟨s.link, rfl⟩

theorem ulenFall_changes_link (s : State) : ∃ l, ulenFall s = s.withLink l := by
  unfold ulenFall
  split
  · split <;> exact ⟨_, rfl⟩
  all_goals exact ⟨s.link, rfl⟩

theorem ulenRise_changes_link (words : List Word) (s : State) : ∃ l, ulenRise words s = s.withLink l := by
  unfold ulenRise
  dsimp only
  split
  · split <;> exact ⟨_, rfl⟩
  · exact ⟨_, rfl⟩
  · exact ⟨_, rfl⟩
  · exact ⟨s.link, rfl⟩

theorem readHeader_changes_link (header : Word) (s : State) : ∃ l, readHeader header s = s.withLink l := by
  unfold readHeader
  dsimp only
  split
  · split <;> exact ⟨_, rfl⟩
  · exact ⟨s.link, rfl⟩

theorem forwardedReadStart_changes_link (s : State) : ∃ l, forwardedReadStart s = s.withLink l := by
  unfold forwardedReadStart
  split
  · split
    · exact ⟨_, rfl⟩
    · exact ⟨s.link, rfl⟩
  all_goals exact ⟨s.link, rfl⟩

theorem readAnswerFfff_changes_link (s : State) : ∃ l, readAnswerFfff s = s.withLink l := by
  unfold readAnswerFfff
  split
  · split
    · exact ⟨_, rfl⟩
    · exact ⟨s.link, rfl⟩
  all_goals exact ⟨s.link, rfl⟩

theorem emitterSend_changes_link (s : State) : ∃ l, emitterSend s = s.withLink l := by
  unfold emitterSend
  split
  · exact ⟨s.link, rfl⟩
  · split
    · exact ⟨s.link, rfl⟩
    · exact ⟨_, rfl⟩

theorem transactionSent_changes_link (s : State) : ∃ l, transactionSent s = s.withLink l := by
  unfold transactionSent
  split
  · split
    · exact ⟨s.link, rfl⟩
    · obtain ⟨l, h⟩ := settleUlwt_changes_link _
      exact ⟨l, h⟩
  · exact ⟨s.link, rfl⟩

/-- READ_WORD changes the link and queues at most a TRACE record (R14, R167). -/
theorem readWord_keeps {P : State → Prop} (hlink : ∀ l s, P s → P (State.withLink l s))
    (hreport : ∀ r s, P s → P (queueReport r s)) (returned : Word) {s : State} (h : P s) :
    P (readWord returned s) := by
  unfold readWord
  split
  · split
    · split
      · refine hlink _ _ ?_
        unfold traceWord
        split
        · exact hreport _ _ h
        · exact h
      · exact hlink _ _ h
    · exact h
  all_goals exact h

/-! ## The acts of the commands -/

/-- The commands that a claim of the acts leaves to be looked at on their own: the write gate rise, the thermal expiry,
the slot start, the two edges of LOAD_N and RST_N asserted. -/
def actsAlone : Instr → Bool
  | .writeGateRise _ => true
  | .thermalExpiry => true
  | .slotStart _ => true
  | .loadNFall => true
  | .loadNRise => true
  | .rstNAssert => true
  | _ => false

/-- The commands of the control link (chapter 1). -/
def onLink : Instr → Bool
  | .ulenFall => true
  | .ulenRise _ => true
  | .readHeader _ => true
  | .forwardedReadStart => true
  | .readWord _ => true
  | .readAnswerFfff => true
  | .writeTaken => true
  | .emitterSend => true
  | .transactionSent => true
  | _ => false

/-- `P` is kept by every act that the commands of neither kind are made of. -/
structure KeptOffLink (P : State → Prop) : Prop where
  sample : ∀ v s, P s → P (gateSample v s)
  writeGateLow : ∀ x s, P s → P (State.setWriteGate x false s)
  servoGate : ∀ x level s, P s → P (State.setServoGate x level s)
  frzGate : ∀ level s, P s → P (State.setFrzGate level s)
  writeFall : ∀ x s, s.loader.config = .configured → P s → P (writeFall x s)
  servoRise : ∀ x s, s.loader.config = .configured → P s → P (servoRise x s)
  freezeRise : ∀ s, s.loader.config = .configured → P s → P (freezeRise s)
  freezeFall : ∀ s, s.loader.config = .configured → P s → P (freezeFall s)
  arbiterStart : ∀ s, P s → P (arbiterStart s)
  computationEnd : ∀ s, P s → P (computationEnd s)
  leadExpiry : ∀ x s, P s → P (leadExpiry x s)
  kickExpiry : ∀ x s, P s → P (kickExpiry x s)
  dwellExpiry : ∀ x s, P s → P (dwellExpiry x s)
  loadWord : ∀ w s, P s → P (loadWord w s)
  loadPortArmed : ∀ s, P s → P (loadPortArmed s)
  rstNRelease : ∀ s, P s → P (rstNRelease s)

/-- `P` is kept by these and by every act of the commands of the link. -/
structure KeptByActs (P : State → Prop) : Prop extends KeptOffLink P where
  link : ∀ l s, P s → P (State.withLink l s)
  kinds : ∀ p kinds s, P s → P (State.setKinds p kinds s)
  report : ∀ r s, P s → P (queueReport r s)
  capture : ∀ x h n v s, P s → P (captureCode x h n v s)
  offer : ∀ p i h a w s, s.inEpisode p = true → P s → P (offerHeld p i h a w s).1
  control : ∀ p win w s, s.loader.config = .configured → P s → P (controlWord p win w s)

/-- A command keeps what its acts keep; the commands of the link and those left aside are to be looked at on their
own. -/
theorem KeptOffLink.effect {P : State → Prop} (h : KeptOffLink P) {c : Instr} {s : State} (hs : P s)
    (hlink : onLink c = true → P (effect c s)) (halone : actsAlone c = true → P (effect c s)) : P (effect c s) := by
  cases c with
  | writeGateRise | thermalExpiry | slotStart | loadNFall | loadNRise | rstNAssert => exact halone rfl
  | writeGateFall x => exact unlessReset_keeps hs (takeEdge_keeps hs (h.writeGateLow x s hs) (h.writeFall x _))
  | servoGateRise x => exact unlessReset_keeps hs (takeEdge_keeps hs (h.servoGate x true s hs) (h.servoRise x _))
  | servoGateFall x =>
    exact unlessReset_keeps hs (takeEdge_keeps hs (h.servoGate x false s hs) (fun _ hs => hs))
  | frzRise => exact unlessReset_keeps hs (takeEdge_keeps hs (h.frzGate true s hs) (h.freezeRise _))
  | frzFall => exact unlessReset_keeps hs (takeEdge_keeps hs (h.frzGate false s hs) (h.freezeFall _))
  | arbiterStart => exact unlessReset_keeps hs (h.arbiterStart s hs)
  | computationEnd => exact unlessReset_keeps hs (h.computationEnd s hs)
  | leadExpiry x => exact unlessReset_keeps hs (h.leadExpiry x s hs)
  | kickExpiry x => exact unlessReset_keeps hs (h.kickExpiry x s hs)
  | dwellExpiry x => exact unlessReset_keeps hs (h.dwellExpiry x s hs)
  | loadWord w => exact unlessReset_keeps hs (h.loadWord w s hs)
  | rstNRelease => exact h.rstNRelease s hs
  | gateSample samples => exact unlessReset_keeps hs (h.sample samples s hs)
  | loadPortArmed => exact unlessReset_keeps hs (h.loadPortArmed s hs)
  | _ => exact hlink rfl

namespace KeptByActs

variable {P : State → Prop}

theorem raise (h : KeptByActs P) (p : Side) (k : EventKind) (i : Bool) (s : State) (hs : P s) :
    P (raiseEvent p k i s) :=
  h.report _ _ (h.kinds _ _ _ hs)

theorem inject (h : KeptByActs P) (p : Side) (v : Nat) (s : State) (hs : P s) : P (injectWord p v s) := by
  unfold injectWord
  split
  · exact h.raise _ _ _ _ hs
  · exact hs

/-- The processing of a word in CONFIGURED (R7). -/
theorem word (h : KeptByActs P) (p : Side) (a : RegAddr) (w : Word) (s : State)
    (hc : s.loader.config = .configured) (hs : P s) : P (processWord p a w s).1 := by
  refine (processWord_keeps (P := fun s => s.loader.config = .configured ∧ P s) ?_ ?_ ?_ ?_ ?_ ?_ p a w s ⟨hc, hs⟩).2
  · exact fun r s hs => ⟨by simpa using hs.1, h.report _ _ hs.2⟩
  · exact fun p win w s hs => ⟨by simpa using hs.1, h.control _ _ _ _ hs.1 hs.2⟩
  · exact fun p i g a w s he hs => ⟨by simpa using hs.1, h.offer _ _ _ _ _ _ he hs.2⟩
  · exact fun p g n v s hs => ⟨by simpa using hs.1, h.capture _ _ _ _ _ hs.2⟩
  · exact fun p v n s hs => ⟨by simpa using hs.1, h.kinds _ _ _ hs.2⟩
  · exact fun p v s hs => ⟨by simpa using hs.1, h.inject _ _ _ hs.2⟩

/-- The commands of the link. -/
theorem link_effect (h : KeptByActs P) {c : Instr} {s : State} (hs : P s) (hc : onLink c = true) : P (effect c s) := by
  have hlink : ∀ {f : State → State}, (∃ l, f s = s.withLink l) → P (f s) := by
    rintro f ⟨l, hl⟩
    rw [hl]
    exact h.link _ _ hs
  cases c with
  | ulenFall => exact hlink (ulenFall_changes_link s)
  | ulenRise words => exact hlink (ulenRise_changes_link words s)
  | readHeader header => exact unlessReset_keeps hs (hlink (readHeader_changes_link header s))
  | forwardedReadStart => exact unlessReset_keeps hs (hlink (forwardedReadStart_changes_link s))
  | readWord returned => exact unlessReset_keeps hs (readWord_keeps h.link h.report returned hs)
  | readAnswerFfff => exact unlessReset_keeps hs (hlink (readAnswerFfff_changes_link s))
  | writeTaken =>
    exact unlessReset_keeps hs (writeTaken_keeps h.link h.word (fun p s _ hs => h.raise p _ _ s hs) hs)
  | emitterSend => exact unlessReset_keeps hs (hlink (emitterSend_changes_link s))
  | transactionSent => exact unlessReset_keeps hs (hlink (transactionSent_changes_link s))
  | _ => exact absurd hc Bool.false_ne_true

/-- Every command keeps what its acts keep; those left aside are to be looked at on their own. -/
theorem effect (h : KeptByActs P) {c : Instr} {s : State} (hs : P s)
    (halone : actsAlone c = true → P (effect c s)) : P (effect c s) :=
  h.toKeptOffLink.effect hs (h.link_effect hs) halone

end KeptByActs

end Sys2Proof.Machine
end

section
/-!
PROOFS. The commands as the episodes see them: which acts begin, keep and end an episode. The claims that hold of the
channels only as being in an episode state under a head (the held-write queue, the shadow, the places and the emission)
follow from what these acts do.
-/

namespace Sys2Proof.Machine

/-! ## What the claims of episodes read -/

/-- `t` has the parts of `s` that the claims of episodes read. -/
structure EpisodeFrame (s t : State) : Prop where
  shadow : t.shadow = s.shadow
  held : t.held = s.held
  chan : t.chan = s.chan
  place : t.engine.place = s.engine.place
  level : t.framer.level = s.framer.level
  head : t.framer.head = s.framer.head
  urgent : t.framer.urgent = s.framer.urgent
  budget : t.budget = s.budget

/-- A change of a channel within the episode states under one head, or outside them. -/
def Steady (f : Channel → Channel) (c : Channel) : Prop :=
  (f c).state.inEpisode = c.state.inEpisode ∧ (f c).head = c.head

/-- `P` is kept by the acts on the episodes, and reads nothing that the other acts change. -/
structure EpisodeActs (P : State → Prop) : Prop where
  frame : ∀ s t, EpisodeFrame s t → P s → P t
  steady : ∀ x f s, Steady f (s.chan.get x) → P s → P (s.modChan x f)
  leave : ∀ x d o s, s.inEpisode x = true → d.inEpisode = false → P s → P (leaveEpisode x d o s)

theorem State.modChan_inEpisode (x y : Side) (f : Channel → Channel) (s : State) :
    (s.modChan x f).inEpisode y = if y = x then (f (s.chan.get x)).state.inEpisode else s.inEpisode y := by
  simp only [State.inEpisode, State.modChan_chan, PerSide.get_set]
  split <;> rfl

/-! ## The words of a slot -/

/-- What a slot can carry (R133–R135): a property that each of these words gives is given by the slot. -/
theorem sendSlot_keeps {P : State → Prop} {s : State} (hoff : P (sendAllOff s)) (hurgent : ∀ x, P (sendUrgent x s))
    (hlevel : ∀ x, s.inEpisode x = true → P (sendLevel x s)) (hreport : P (sendReport s)) (hidle : P (sendIdle s))
    (k : Fin 8) : P (sendSlot k s) := by
  have howner : ∀ o, P (sendOwner s o) := by
    intro o
    cases o with
    | none => exact hidle
    | report => exact hreport
    | chan x =>
      unfold sendOwner
      dsimp only
      split
      · rename_i hin
        exact hlevel x hin
      · exact hidle
  unfold sendSlot
  split
  · exact hoff
  · split
    · exact hoff
    · split
      · exact hurgent _
      · split
        · exact hurgent _
        · exact howner _

/-! ## What a CONTROL effect is made of -/

/-- The channels after a CONTROL word has ended an episode (R92, R151). -/
theorem leaveByControl_chan_eq (x : Side) (o : EpisodeOutcome) (s : State) :
    (leaveByControl x o s).chan =
      s.chan.set x ((s.chan.get x).left (if s.freeze.wait.get x then .frozen else .idle)) := by
  rw [leaveByControl_eq]
  dsimp only
  split <;> simp [leaveEpisode_chan_eq, Channel.left]

/-- The same after a head change (R89, R90). -/
theorem leaveByHeadChange_chan_eq (x : Side) (s : State) :
    (leaveByHeadChange x s).chan =
      s.chan.set x ((s.chan.get x).left (if s.freeze.wait.get x then .frozen else .idle)) := by
  unfold leaveByHeadChange
  rw [leaveByControl_chan_eq]
  split <;> simp

/-- The acts of a channel on the CONTROL words (R73–R76, R88–R91): a property that each keeps is kept by every
effect. -/
theorem deliverEffect_keeps {P : State → Prop} {p : Side} {h : Fin 16}
    (hraise : ∀ k s, P s → P (raiseEvent p k false s))
    (hleave : ∀ o s, s.inEpisode p = true → P s → P (leaveByControl p o s))
    (harm : ∀ g s, (s.chan.get p).state = .idle → P s →
      P ((s.modChan p fun c => c.armed g).setPlace p (some .arm)))
    (hrefuse : ∀ s, (s.chan.get p).state = .idle → P s → P (s.modChan p fun c => { c with state := .faulted }))
    (hclear : ∀ s, (s.chan.get p).state = .faulted → P s → P (s.modChan p fun c => { c with state := .idle }))
    (e : ControlEffect) {s : State} (hs : P s) : P (deliverEffect p e h s) := by
  have htake : ∀ s : State, (s.chan.get p).state = .idle → P s → P (takeArm p h s) := by
    intro s hidle hs
    unfold takeArm
    split
    · rw [postRequest_arm]
      exact harm _ s hidle hs
    · exact hrefuse _ (by simpa using hidle) (hraise _ s hs)
  have hchange : ∀ s : State, s.inEpisode p = true → P s → P (leaveByHeadChange p s) := by
    intro s he hs
    unfold leaveByHeadChange
    split
    · exact hleave _ _ (by simpa [State.inEpisode] using he) (hraise _ s hs)
    · exact hleave _ s he hs
  have hdisarm : ∀ s : State, s.inEpisode p = true → P s → P (disarmEpisode p s) := by
    intro s he hs
    unfold disarmEpisode
    dsimp only
    split
    · exact hleave _ _ (by simpa [State.inEpisode] using he) (hraise _ s hs)
    · exact hleave _ s he hs
  have hanother : ∀ s : State, s.inEpisode p = true → P s → P (headChangeArm p h s) := by
    intro s he hs
    unfold headChangeArm
    split
    · exact hchange s he hs
    · rename_i hwait
      refine htake _ ?_ (hchange s he hs)
      simp [leaveByHeadChange_chan_eq, hwait, Channel.left]
  have hrecheck : ∀ s : State, P s → P (recheckArm p h s) := by
    intro s hs
    unfold recheckArm
    split
    · exact hs
    · exact hraise _ s hs
  unfold deliverEffect
  split
  · rename_i he
    cases e with
    | rearm => exact hs
    | disarm => exact hdisarm s he hs
    | switch => exact hchange s he hs
    | arm => exact hanother s he hs
  · split
    · rename_i hidle
      cases e with
      | arm => exact htake s hidle hs
      | rearm | disarm | switch => exact hs
    · split
      · rename_i hfaulted
        cases e with
        | rearm => exact hs
        | disarm | switch => exact hclear s hfaulted hs
        | arm => exact hrecheck s hs
      · exact hs

namespace EpisodeActs

variable {P : State → Prop}

theorem raise (h : EpisodeActs P) (p : Side) (k : EventKind) (i : Bool) (s : State) (hs : P s) :
    P (raiseEvent p k i s) :=
  h.frame s _ (by constructor <;> simp) hs

theorem setWait (h : EpisodeActs P) (x : Side) (b : Bool) (s : State) (hs : P s) : P (s.setWait x b) :=
  h.frame s _ (by constructor <;> rfl) hs

theorem setFrozenEpisode (h : EpisodeActs P) (x : Side) (b : Bool) (s : State) (hs : P s) :
    P (s.setFrozenEpisode x b) :=
  h.frame s _ (by constructor <;> rfl) hs

/-- An outside state replaced by another one. -/
theorem outside (h : EpisodeActs P) {x : Side} {d : ChanState} {s : State} (hout : s.inEpisode x = false)
    (hd : d.inEpisode = false) (hs : P s) : P (s.modChan x fun c => { c with state := d }) :=
  h.steady x _ s ⟨hd.trans hout.symm, rfl⟩ hs

theorem leaveFrozen (h : EpisodeActs P) {x : Side} {s : State} (he : s.inEpisode x = true) (hs : P s) :
    P (leaveFrozen x s) :=
  h.setFrozenEpisode _ _ _ (h.setWait _ _ _ (h.leave x _ _ s he rfl hs))

/-- An episode ended by a CONTROL word (R151). -/
theorem leaveByControl (h : EpisodeActs P) (x : Side) (o : EpisodeOutcome) {s : State} (he : s.inEpisode x = true)
    (hs : P s) : P (leaveByControl x o s) := by
  have hleft := h.leave x .idle o s he rfl hs
  unfold Machine.leaveByControl
  dsimp only
  split
  · refine h.outside ?_ rfl (h.setFrozenEpisode x false _ (h.setWait x false _ hleft))
    show (leaveEpisode x .idle o s).inEpisode x = false
    simp [State.inEpisode, leaveEpisode_chan_eq, Channel.left, ChanState.inEpisode]
  · exact hleft

/-- A CONTROL word, for a claim that does not read the shadow. -/
theorem controlWord (h : EpisodeActs P) (hshadow : ∀ sh s, P s → P { s with shadow := sh })
    (harm : ∀ x g s, (s.chan.get x).state = .idle → P s →
      P ((s.modChan x fun c => c.armed g).setPlace x (some .arm))) (p : Side) (win : Window) (w : Word) (s : State)
    (hs : P s) : P (controlWord p win w s) := by
  have hout : ∀ {s : State} {st : ChanState}, (s.chan.get p).state = st → st.inEpisode = false →
      s.inEpisode p = false := by
    rintro s st rfl hst
    exact hst
  exact deliverEffect_keeps (fun k s => h.raise p k false s) (fun o s => h.leaveByControl p o)
    (fun g s => harm p g s) (fun s hst => h.outside (hout hst rfl) rfl) (fun s hst => h.outside (hout hst rfl) rfl)
    _ (hshadow _ s hs)

/-! ### The gate lines -/

theorem earlyGate (h : EpisodeActs P) (x : Side) (s : State) (hs : P s) : P (earlyGate x s) :=
  h.steady x _ _ ⟨rfl, rfl⟩ (h.raise _ _ _ _ hs)

theorem enterWriting (h : EpisodeActs P) {x : Side} {s : State} (he : s.inEpisode x = true) (hs : P s) :
    P (enterWriting x s) :=
  h.steady x _ _ ⟨he.symm, rfl⟩ hs

theorem enterHolding (h : EpisodeActs P) {x : Side} {s : State} (he : s.inEpisode x = true) (hs : P s) :
    P (enterHolding x s) :=
  h.steady x _ _ ⟨he.symm, rfl⟩ hs

/-- A write gate rise keeps an episode or acts on nothing (R80–R82). -/
theorem writeRise (h : EpisodeActs P) (x : Side) (s : State) (hs : P s) : P (writeRise x s) := by
  unfold Machine.writeRise
  have hin : s.inEpisode x = (s.chan.get x).state.inEpisode := rfl
  split <;> rename_i hst <;> rw [hst] at hin
  · exact h.earlyGate x s hs
  · split
    · refine h.enterWriting (s := State.modChan x _ _) ?_ (h.steady x _ _ ⟨rfl, rfl⟩ (h.earlyGate x s hs))
      simp [Machine.earlyGate, State.modChan_inEpisode, hst, ChanState.inEpisode]
    · exact h.earlyGate x s hs
  · exact h.enterWriting hin hs
  · exact h.enterWriting hin hs
  all_goals exact hs

/-- A write gate fall keeps an episode, or ends it under a freeze wait (R84, R151). -/
theorem writeFall (h : EpisodeActs P) (x : Side) (s : State) (hs : P s) : P (writeFall x s) := by
  unfold Machine.writeFall
  split
  · rename_i hst
    have hin : s.inEpisode x = true := by simp [State.inEpisode, hst, ChanState.inEpisode]
    split
    · exact h.leaveFrozen hin hs
    · exact h.enterHolding hin hs
  · exact hs

theorem swapped_state (c : Channel) : c.swapped.state = c.state ∧ c.swapped.head = c.head := by
  unfold Channel.swapped
  split <;> exact ⟨rfl, rfl⟩

/-- A servo gate rise does so too (R85, R87, R151). -/
theorem servoRise (h : EpisodeActs P) (x : Side) (s : State) (hs : P s) : P (servoRise x s) := by
  unfold Machine.servoRise
  split
  · rename_i hst
    have hin : ∀ f : Channel → Channel, (∀ c, (f c).state = c.state) →
        ((raiseEvent x .servoOverlap false s).modChan x f).inEpisode x = true := by
      intro f hf
      simp [State.modChan_inEpisode, hf, hst, ChanState.inEpisode]
    have hflag := h.steady x (fun c => { c with record := { c.record with overlap := true } }) _ ⟨rfl, rfl⟩
      (h.raise x .servoOverlap false s hs)
    unfold servoOverlap
    dsimp only
    split
    · exact h.leaveFrozen (hin _ fun _ => rfl) hflag
    · exact h.enterHolding (hin _ fun _ => rfl) hflag
  · exact h.steady x _ s ⟨congrArg _ (swapped_state _).1, (swapped_state _).2⟩ hs
  all_goals exact hs

/-! ### The freeze -/

theorem freezeChannel (h : EpisodeActs P) (x : Side) (s : State) (hs : P s) : P (freezeChannel x s) := by
  rw [freezeChannel_eq]
  split
  · exact h.setWait x true s hs
  · split
    · rename_i he
      exact h.frame (leaveEpisode x .frozen .frozen s) _ (by constructor <;> rfl) (h.leave x _ _ s he rfl hs)
    · rename_i he
      exact h.outside (by simpa using he) rfl hs

theorem freezeRise (h : EpisodeActs P) (s : State) (hs : P s) : P (freezeRise s) := by
  unfold Machine.freezeRise
  split
  · exact hs
  · exact h.freezeChannel _ _ (h.freezeChannel _ _ (h.frame s _ (by constructor <;> rfl) hs))

theorem thawChannel (h : EpisodeActs P) (x : Side) (s : State) (hs : P s) : P (thawChannel x s) := by
  rw [thawChannel_eq]
  split
  · rename_i hst
    have hout : s.inEpisode x = false := by simp [State.inEpisode, hst, ChanState.inEpisode]
    have hd : ∀ c : Prop, [Decidable c] → (if c then ChanState.faulted else .idle).inEpisode = false := by
      intro c _; split <;> rfl
    have hv := h.outside (d := if (s.shadow.get x).arm = .set then .faulted else .idle) hout (hd _) hs
    dsimp only
    split
    · exact h.raise _ _ _ _ (h.setFrozenEpisode x false _ hv)
    · exact hv
  · exact h.setWait x false s hs

theorem freezeFall (h : EpisodeActs P) (s : State) (hs : P s) : P (freezeFall s) := by
  unfold Machine.freezeFall
  split
  · exact h.thawChannel _ _ (h.thawChannel _ _ (h.frame s _ (by constructor <;> rfl) hs))
  · exact hs

/-! ### The plan engine and the timers -/

/-- A delivered result keeps an episode or is discarded (R77, R78, R86). -/
theorem receive_steady (r : Computation) (n : Nat) (c : Channel) : Steady (Channel.receive r n) c := by
  unfold Steady Channel.receive
  split
  · split
    · split
      · rename_i hst
        simp [Channel.toPreheat, hst, ChanState.inEpisode]
      · exact ⟨rfl, rfl⟩
    · split <;> exact ⟨rfl, rfl⟩
  · exact ⟨rfl, rfl⟩

theorem computationEnd (h : EpisodeActs P) (s : State) (hs : P s) : P (computationEnd s) := by
  unfold Machine.computationEnd
  split
  · exact hs
  · exact h.steady _ _ _ (receive_steady _ _ _) (h.frame s _ (by constructor <;> rfl) hs)

theorem leadExpiry (h : EpisodeActs P) (x : Side) (s : State) (hs : P s) : P (leadExpiry x s) := by
  unfold Machine.leadExpiry
  split
  · rename_i hc
    have hst : (s.chan.get x).state = .preheat := by simp at hc; exact hc.1
    exact h.steady x _ s ⟨by rw [hst]; rfl, rfl⟩ hs
  · exact hs

theorem kickExpiry (h : EpisodeActs P) (x : Side) (s : State) (hs : P s) : P (kickExpiry x s) := by
  unfold Machine.kickExpiry
  split
  · exact h.steady x _ s ⟨rfl, rfl⟩ hs
  · exact hs

/-- The states in which the dwell counter runs are episode states (R146). -/
theorem inEpisode_of_dwells {st : ChanState} (h : st.dwells = true) : st.inEpisode = true := by
  revert h
  cases st <;> decide

theorem dwellExpiry (h : EpisodeActs P) (x : Side) (s : State) (hs : P s) : P (dwellExpiry x s) := by
  unfold Machine.dwellExpiry
  split
  · rename_i hc
    have hin : s.inEpisode x = true := inEpisode_of_dwells (by simp at hc; exact hc.1)
    refine h.leave x _ _ _ ?_ rfl (h.raise _ _ _ _ (h.steady x _ s ⟨rfl, rfl⟩ hs))
    simpa [State.inEpisode] using hin
  · exact hs

/-! ### Every command but the slot start and the load port's -/

/-- The acts of the commands, when held writes, CONTROL words and the arbiter are known to keep `P`. -/
theorem keptByActs (h : EpisodeActs P)
    (hoffer : ∀ p i g a w s, s.inEpisode p = true → P s → P (offerHeld p i g a w s).1)
    (hcontrol : ∀ p win w s, P s → P (Machine.controlWord p win w s))
    (harbiter : ∀ s, P s → P (Machine.arbiterStart s)) : KeptByActs P where
  link l s := h.frame s _ (by constructor <;> rfl)
  sample v s := h.frame s _ (by constructor <;> rfl)
  writeGateLow x s := h.frame s _ (by constructor <;> rfl)
  servoGate x l s := h.frame s _ (by constructor <;> rfl)
  frzGate l s := h.frame s _ (by constructor <;> rfl)
  kinds p k s := h.frame s _ (by constructor <;> rfl)
  report r s := h.frame s _ (by constructor <;> simp)
  capture x g n v s := h.frame s _ (by constructor <;> simp)
  offer := hoffer
  control p win w s _ := hcontrol p win w s
  writeFall x s _ := h.writeFall x s
  servoRise x s _ := h.servoRise x s
  freezeRise s _ := h.freezeRise s
  freezeFall s _ := h.freezeFall s
  arbiterStart := harbiter
  computationEnd := h.computationEnd
  leadExpiry := h.leadExpiry
  kickExpiry := h.kickExpiry
  dwellExpiry := h.dwellExpiry
  loadWord w s := by
    unfold Machine.loadWord
    split
    · exact h.frame s _ (by constructor <;> rfl)
    · exact id
  loadPortArmed s := h.frame s _ (by constructor <;> rfl)
  rstNRelease s := h.frame s _ (by constructor <;> rfl)

theorem writeGateRise (h : EpisodeActs P) (x : Side) (s : State) (hs : P s) : P (writeGateRise x s) :=
  takeEdge_keeps hs (h.frame s _ (by constructor <;> rfl) hs) fun _ hs => h.writeRise x _ hs

/-- A slot start, when the words of the slots are known to keep `P`. -/
theorem slotStart (h : EpisodeActs P) (hsend : ∀ k s, P s → P (sendSlot k s)) (part : SlotPart) (s : State)
    (hs : P s) : P (slotStart part s) := by
  have hboth : ∀ f : Channel → Channel, (∀ c, Steady f c) → ∀ s : State, P s →
      P { s with chan := ⟨f s.chan.a, f s.chan.b⟩ } := fun f hf s hs =>
    h.steady .b f _ (hf _) (h.steady .a f s (hf _) hs)
  refine slotStart_keeps ?_ ?_ ?_ ?_ ?_ hsend part s hs
  · exact fun k m s => h.frame s _ (by constructor <;> rfl)
  · exact fun s => h.frame s _ (by constructor <;> rfl)
  · exact hboth _ fun c => ⟨rfl, rfl⟩
  · exact fun s hs => h.frame _ _ (by constructor <;> rfl) (hboth Channel.countFrame (fun c => ⟨rfl, rfl⟩) s hs)
  · exact fun s => h.frame s _ (by constructor <;> rfl)

/-- The leaving of both channels at the start of a reload (R97, R169). -/
theorem reloadChannel (h : EpisodeActs P) (x : Side) (s : State) (hs : P s) : P (reloadChannel x s) := by
  unfold Machine.reloadChannel
  split
  · rename_i he
    exact h.leave x _ _ s he rfl hs
  · rename_i he
    exact h.outside (by simpa using he) rfl hs

/-- A channel's change by a LEVEL word is steady (R79, R83, R95, R142). -/
theorem markReduced (h : EpisodeActs P) (x : Side) (s : State) (hs : P s) : P (markReduced x s) := by
  unfold Machine.markReduced
  dsimp only
  split
  · exact h.steady x _ s ⟨rfl, rfl⟩ hs
  · exact h.steady x _ _ ⟨rfl, rfl⟩ (h.raise _ _ _ _ hs)

/-- The word of a slot, for a claim that does not read the framer. -/
theorem sendSlot (h : EpisodeActs P) (hframer : ∀ F s, P s → P { s with framer := F }) (k : Fin 8) (s : State)
    (hs : P s) : P (sendSlot k s) := by
  have hreport : ∀ s : State, P s → P (sendReport s) := by
    intro s hs
    unfold sendReport
    split
    · exact hframer _ s hs
    · refine hframer _ _ ?_
      split <;> exact h.frame s _ (by constructor <;> rfl) hs
  have hlevel : ∀ x (s : State), P s → P (sendLevel x s) := by
    intro x s hs
    unfold sendLevel
    refine hframer _ _ (h.steady x _ _ ⟨rfl, rfl⟩ (hframer _ _ ?_))
    split
    · exact h.markReduced x s hs
    · exact hs
  exact sendSlot_keeps (hframer _ s hs) (fun _ => hframer _ s hs) (fun x _ => hlevel x s hs) (hreport s hs)
    (hframer _ s hs) k

/-- The start of a reload, for a claim that does not read the shadow and the framer's maps (R169). -/
theorem loadNFall (h : EpisodeActs P) (hquit : ∀ s, P s → P { s with shadow := .both .unknown }) (s : State)
    (hs : P s) : P (loadNFall s) := by
  have hleft := hquit _ (h.reloadChannel .b _ (h.reloadChannel .a s hs))
  unfold Machine.loadNFall
  dsimp only
  split
  · split
    · exact h.frame _ _ (by constructor <;> rfl) hleft
    · exact h.frame s _ (by constructor <;> rfl) hs
  · exact hs

/-- The end of a load, for a claim that does not read the budget (R170, R171). -/
theorem loadNRise (h : EpisodeActs P) (hbudget : ∀ n s, P s → P { s with budget := n }) (s : State) (hs : P s) :
    P (loadNRise s) := by
  have himage : P (applyImage s.loader.buffer s) :=
    h.frame _ _ (by constructor <;> rfl) (hbudget (bitField (imageWord s.loader.buffer 3) 0 11) s hs)
  unfold Machine.loadNRise loadSucceeds loadFails
  dsimp only
  split
  · split
    · split
      · exact h.freezeRise _ himage
      · exact himage
    · exact h.raise _ _ _ _ (h.raise _ _ _ _ (h.frame s _ (by constructor <;> rfl) hs))
  · exact h.frame s _ (by constructor <;> rfl) hs

/-- Every command keeps `P`, when what the acts leave open is known to keep it. -/
theorem effect (h : EpisodeActs P)
    (hoffer : ∀ p i g a w s, s.inEpisode p = true → P s → P (offerHeld p i g a w s).1)
    (hcontrol : ∀ p win w s, P s → P (Machine.controlWord p win w s))
    (harbiter : ∀ s, P s → P (Machine.arbiterStart s)) (hthermal : ∀ s, P s → P (thermalExpiry s))
    (hsend : ∀ k s, P s → P (Machine.sendSlot k s)) (hfall : ∀ s, P s → P (Machine.loadNFall s))
    (hreset : ∀ s, P s → P (rstNAssert s)) {c : Instr} {s : State}
    (hrise : c = .loadNRise → P s → P (Machine.loadNRise s)) (hs : P s) : P (effect c s) := by
  refine (h.keptByActs hoffer hcontrol harbiter).effect hs fun halone => ?_
  cases c with
  | writeGateRise x => exact unlessReset_keeps hs (h.writeGateRise x s hs)
  | thermalExpiry => exact unlessReset_keeps hs (hthermal s hs)
  | slotStart part => exact unlessReset_keeps hs (h.slotStart hsend part s hs)
  | loadNFall => exact unlessReset_keeps hs (hfall s hs)
  | loadNRise => exact unlessReset_keeps hs (hrise rfl hs)
  | rstNAssert => exact hreset s hs
  | _ => exact absurd halone Bool.false_ne_true

end EpisodeActs

/-! ## The commands that change only the engine and the thermal model -/

/-- The arbiter changes the engine only (R103). -/
theorem arbiterStart_changes_engine (s : State) : ∃ e, arbiterStart s = { s with engine := e } := by
  unfold arbiterStart
  split
  · exact ⟨s.engine, rfl⟩
  · split
    · exact ⟨s.engine, rfl⟩
    · exact ⟨_, rfl⟩

theorem postRequest_changes_engine (x : Side) (c : ReqClass) (s : State) :
    ∃ e, postRequest x c s = { s with engine := e } := by
  unfold postRequest
  split
  · exact ⟨_, rfl⟩
  · exact ⟨_, rfl⟩
  · exact ⟨s.engine, rfl⟩

/-- A thermal expiry writes the head table and the thermal model, and posts requests for the channels in WRITING and
HOLDING (R118, R119). -/
theorem thermalExpiry_keeps {P : State → Prop} (hmodel : ∀ H T s, P s → P { s with heads := H, thermal := T })
    (hpost : ∀ x s, (s.chan.get x).state.recomputes = true → P s → P (postRequest x .recompute s)) (s : State)
    (hs : P s) : P (thermalExpiry s) := by
  have hrecompute : ∀ x s, P s → P (postRecompute x s) := by
    intro x s hs
    unfold postRecompute
    split
    · rename_i hst
      exact hpost x s hst hs
    · exact hs
  unfold thermalExpiry
  split
  · exact hrecompute _ _ (hrecompute _ _ (hmodel _ _ s hs))
  · exact hs

end Sys2Proof.Machine
end

section
/-!
PROOFS. The claims of the steps that see the channels as being in an episode under a head: the held-write queue, the
shadow, and what the part emits.
-/

namespace Sys2Proof.Machine

/-! ## The held-write queue (R36) -/

/-- The queue's bounds see the queue, and that the episodes of its entries go on. -/
theorem HeldBounded.congr {s t : State} (hheld : t.held = s.held)
    (hin : ∀ x, s.inEpisode x = true → t.inEpisode x = true) (h : HeldBounded s) : HeldBounded t := by
  obtain ⟨hlen, hkeys, hside⟩ := h
  unfold HeldBounded
  rw [hheld]
  exact ⟨hlen, hkeys, fun e he => hin _ (hside e he)⟩

/-- The same when the channels stay as they are. -/
theorem HeldBounded.congr_chan {s t : State} (hheld : t.held = s.held) (hchan : t.chan = s.chan)
    (h : HeldBounded s) : HeldBounded t :=
  h.congr hheld fun x hx => by rw [State.inEpisode, hchan]; exact hx

/-- An ended episode takes its entries with it, and the other channel's stay (R42, R92). -/
theorem HeldBounded.leave {s : State} (x : Side) (d : ChanState) (o : EpisodeOutcome) (h : HeldBounded s) :
    HeldBounded (leaveEpisode x d o s) := by
  obtain ⟨hlen, hkeys, hside⟩ := h
  unfold HeldBounded
  rw [leaveEpisode_held_eq]
  refine ⟨(List.length_filter_le _ _).trans hlen, hkeys.sublist (List.filter_sublist.map _), fun e he => ?_⟩
  obtain ⟨hmem, hne⟩ := List.mem_filter.mp he
  have hside' : e.side ≠ x := by simpa using hne
  simpa [State.inEpisode, leaveEpisode_chan_eq, PerSide.get_set, hside'] using hside e hmem

/-- An entry is found by its key (R41). -/
theorem hasKey_iff (e : HeldEntry) (p : Side) (a : RegAddr) : e.hasKey p a = true ↔ (e.side, e.reg) = (p, a) := by
  simp [HeldEntry.hasKey]

/-- A key is free when no entry has it. -/
theorem heldFor_eq_none_iff (s : State) (p : Side) (a : RegAddr) :
    s.heldFor p a = none ↔ (p, a) ∉ s.held.map fun e => (e.side, e.reg) := by
  simp [State.heldFor, HeldEntry.hasKey]

/-- An offered word becomes the only entry with its key, or is dropped (R37–R39). -/
theorem HeldBounded.offer {s : State} (p : Side) (i : Fin 16) (g : Fin 12) (a : RegAddr) (w : Word)
    (hin : s.inEpisode p = true) (h : HeldBounded s) : HeldBounded (offerHeld p i g a w s).1 := by
  obtain ⟨hlen, hkeys, hside⟩ := h
  unfold offerHeld
  split
  · rename_i e hfound
    have hkey : (e.side, e.reg) = (p, a) := (hasKey_iff e p a).mp (by simpa using List.find?_some hfound)
    have hmem : e ∈ s.held := List.mem_of_find?_eq_some hfound
    refine ⟨?_, ?_, ?_⟩
    · have hfewer : (s.held.filter fun f => !f.hasKey p a).length < s.held.length :=
        List.length_filter_lt_length_iff_exists.mpr ⟨e, hmem, by simp [(hasKey_iff e p a).mpr hkey]⟩
      simp only [State.setHeld_held, List.length_append, List.length_singleton]
      omega
    · simp only [State.setHeld_held, List.map_append, List.map_singleton]
      refine (hkeys.sublist (List.filter_sublist.map _)).append (List.nodup_singleton _) ?_
      simp only [List.disjoint_singleton, List.mem_map, List.mem_filter, Bool.not_eq_true']
      rintro ⟨f, ⟨-, hf⟩, hfe⟩
      simp [(hasKey_iff f p a).mpr (hfe.trans hkey)] at hf
    · intro f hf
      show s.inEpisode f.side = true
      rcases List.mem_append.mp hf with hf | hf
      · exact hside f (List.mem_of_mem_filter hf)
      · rw [List.mem_singleton.mp hf]
        exact hside e hmem
  · rename_i hfree
    split
    · rename_i hroom
      refine ⟨?_, ?_, ?_⟩
      · simp only [State.setHeld_held, List.length_append, List.length_singleton]
        exact hroom
      · simp only [State.setHeld_held, List.map_append, List.map_singleton]
        exact hkeys.append (List.nodup_singleton _)
          (List.disjoint_singleton.mpr ((heldFor_eq_none_iff s p a).mp hfree))
      · intro f hf
        show s.inEpisode f.side = true
        rcases List.mem_append.mp hf with hf | hf
        · exact hside f hf
        · rw [List.mem_singleton.mp hf]
          exact hin
    · exact HeldBounded.congr_chan (s := s) (by simp) (by simp) ⟨hlen, hkeys, hside⟩

/-- The acts on the episodes keep the queue's bounds. -/
theorem heldBounded_episodeActs : EpisodeActs HeldBounded where
  frame s t hf := HeldBounded.congr_chan hf.held hf.chan
  steady x f s hf := HeldBounded.congr rfl fun y hy => by
    rw [State.modChan_inEpisode]
    split
    · rename_i hyx
      rw [hf.1]
      exact hyx ▸ hy
    · exact hy
  leave x d o s _ _ := HeldBounded.leave x d o

/-- So every command keeps them: in IDLE a channel has no entries, so an arm brings none into the episode (R73). -/
theorem heldBounded_effect (c : Instr) (s : State) (h : HeldBounded s) : HeldBounded (effect c s) := by
  have acts := heldBounded_episodeActs
  refine acts.effect (fun p i g a w _ => HeldBounded.offer p i g a w) ?_ ?_ ?_ ?_ ?_ ?_ (fun _ => ?_) h
  · refine acts.controlWord (fun _ s => HeldBounded.congr_chan rfl rfl) fun x g s hidle => ?_
    refine HeldBounded.congr rfl fun y hy => ?_
    have hne : y ≠ x := by
      rintro rfl
      simp [State.inEpisode, hidle, ChanState.inEpisode] at hy
    simpa [State.inEpisode, PerSide.get_set, hne] using hy
  · intro s
    obtain ⟨e, he⟩ := arbiterStart_changes_engine s
    rw [he]
    exact HeldBounded.congr_chan rfl rfl
  · exact thermalExpiry_keeps (fun _ _ s => HeldBounded.congr_chan rfl rfl)
      fun x s _ => HeldBounded.congr_chan (by simp) (by simp)
  · exact acts.sendSlot fun _ s => HeldBounded.congr_chan rfl rfl
  · exact acts.loadNFall fun s => HeldBounded.congr_chan rfl rfl
  · exact fun s _ => ⟨by simp [rstNAssert, State.reset], by simp [rstNAssert, State.reset],
      by simp [rstNAssert, State.reset]⟩
  · exact acts.loadNRise (fun _ s => HeldBounded.congr_chan rfl rfl) s

/-- Settles O30. -/
theorem heldQueueStaysBounded : Obligations.HeldQueueStaysBounded :=
  keptByStep_of_effect (fun _ _ => HeldBounded.congr_chan rfl rfl) heldBounded_effect

/-! ## The shadow of an episode (R27) -/

/-- What the shadow's claim reads. -/
theorem EpisodeShadowed.congr {s t : State} (hshadow : t.shadow = s.shadow)
    (hchan : ∀ x, t.inEpisode x = true → s.inEpisode x = true ∧ (t.chan.get x).head = (s.chan.get x).head)
    (h : EpisodeShadowed s) : EpisodeShadowed t := by
  intro x hx
  obtain ⟨hin, hhead⟩ := hchan x hx
  rw [hshadow, hhead]
  exact h x hin

/-- With no channel in an episode there is nothing to claim. -/
theorem episodeShadowed_of_no_episode {s : State} (h : ∀ x, s.inEpisode x = false) : EpisodeShadowed s :=
  fun x hx => absurd (h x ▸ hx) Bool.false_ne_true

/-- The acts on the episodes begin none and keep the heads of those that go on. -/
theorem episodeShadowed_episodeActs : EpisodeActs EpisodeShadowed where
  frame s t hf := EpisodeShadowed.congr hf.shadow fun x hx => by
    rw [State.inEpisode, hf.chan] at hx
    exact ⟨hx, by rw [hf.chan]⟩
  steady x f s hf := EpisodeShadowed.congr rfl fun y hy => by
    rw [State.modChan_inEpisode] at hy
    rw [State.modChan_chan, PerSide.get_set]
    split at hy
    · rename_i hyx
      subst hyx
      exact ⟨hf.1.symm.trans hy, by rw [if_pos rfl, hf.2]⟩
    · rename_i hyx
      exact ⟨hy, by rw [if_neg hyx]⟩
  leave x d o s _ hd := EpisodeShadowed.congr (by simp) fun y hy => by
    have hyx : y ≠ x := by
      rintro rfl
      simp [State.inEpisode, leaveEpisode_chan_eq, Channel.left, hd] at hy
    rw [leaveEpisode_chan_eq, PerSide.get_set, if_neg hyx]
    exact ⟨by simpa [State.inEpisode, leaveEpisode_chan_eq, PerSide.get_set, hyx] using hy, rfl⟩

/-- A channel in IDLE that takes an arm is in an episode only under the head that the word names (R73). -/
theorem takeArm_head {x : Side} {h : Fin 16} {s : State} (hin : (takeArm x h s).inEpisode x = true) :
    ((takeArm x h s).chan.get x).head.val = h.val := by
  unfold takeArm at hin ⊢
  split
  · rename_i g hg
    have hval : g.val = h.val := by
      unfold checkArm at hg
      split at hg
      · dsimp only at hg
        split at hg
        · exact absurd hg (by simp)
        · split at hg
          · exact absurd hg (by simp)
          · rw [← Sum.inr.inj hg]
      · exact absurd hg (by simp)
    simpa [Channel.armed] using hval
  · rename_i k hk
    simp [hk, State.modChan_inEpisode, ChanState.inEpisode] at hin

/-- A channel is in an episode after a CONTROL effect only by a REARM, which leaves it as it is, or by an ARM, under the
head that the word names (R27). -/
theorem deliverEffect_episode {p : Side} {e : ControlEffect} {h : Fin 16} {s : State}
    (hin : (deliverEffect p e h s).inEpisode p = true) :
    (e = .rearm ∧ deliverEffect p e h s = s) ∨
      (e = .arm ∧ ((deliverEffect p e h s).chan.get p).head.val = h.val) := by
  have hleft : ∀ b : Bool, ((s.chan.get p).left (if b then .frozen else .idle)).state.inEpisode = false := by
    intro b; cases b <;> rfl
  have hchange : (leaveByHeadChange p s).inEpisode p = false := by
    simp [State.inEpisode, leaveByHeadChange_chan_eq, hleft]
  have hdisarm : (disarmEpisode p s).inEpisode p = false := by
    unfold disarmEpisode
    dsimp only
    split <;> simp [State.inEpisode, leaveByControl_chan_eq, hleft]
  by_cases he : s.inEpisode p = true
  · cases e with
    | rearm => exact .inl ⟨rfl, deliverEffect_rearm_of_inEpisode he⟩
    | disarm =>
      rw [show deliverEffect p .disarm h s = disarmEpisode p s from if_pos he, hdisarm] at hin
      exact absurd hin Bool.false_ne_true
    | switch =>
      rw [show deliverEffect p .switch h s = leaveByHeadChange p s from if_pos he, hchange] at hin
      exact absurd hin Bool.false_ne_true
    | arm =>
      rw [show deliverEffect p .arm h s = headChangeArm p h s from if_pos he] at hin ⊢
      unfold headChangeArm at hin ⊢
      split at hin
      · rw [hchange] at hin
        exact absurd hin Bool.false_ne_true
      · rename_i hwait
        rw [if_neg hwait]
        exact .inr ⟨rfl, takeArm_head hin⟩
  · unfold deliverEffect at hin ⊢
    rw [if_neg he] at hin ⊢
    split at hin
    · rename_i hidle
      rw [if_pos hidle]
      cases e with
      | arm => exact .inr ⟨rfl, takeArm_head hin⟩
      | rearm | disarm | switch => exact absurd hin he
    · rename_i hidle
      rw [if_neg hidle]
      split at hin
      · cases e with
        | rearm => exact absurd hin he
        | disarm | switch => simp [State.modChan_inEpisode, ChanState.inEpisode] at hin
        | arm => exact absurd (by simpa [State.inEpisode] using hin) he
      · exact absurd hin he

/-- A CONTROL effect leaves the other side's channel alone. -/
theorem deliverEffect_chan_other (p : Side) (e : ControlEffect) (h : Fin 16) (s : State) :
    (deliverEffect p e h s).chan.get p.other = s.chan.get p.other := by
  refine deliverEffect_keeps (P := fun t => t.chan.get p.other = s.chan.get p.other) (p := p) ?_ ?_ ?_ ?_ ?_ e rfl
  · exact fun k t ht => by simpa using ht
  · exact fun o t _ ht => by rw [leaveByControl_chan_eq, PerSide.get_set_other, ht]
  all_goals exact fun _ => by simp

/-- An arm set makes the effect a REARM or an ARM, and a REARM only of the shadow's own head (R27). -/
theorem classify_inv (sh : Shadow) (h : Fin 16) (b : Bool) :
    (classify sh h b = .rearm → b = true ∧ sh.arm = .set ∧ sh.head = some h) ∧
      (classify sh h b = .arm → b = true) := by
  unfold classify
  cases b
  · simp only [Bool.false_eq_true, if_false]
    split <;> simp
  · simp only [if_true]
    split
    · rename_i hsh
      simpa using hsh
    · simp

/-- A CONTROL word sets the shadow that its episode is to have (R27). -/
theorem EpisodeShadowed.controlWord {s : State} (p : Side) (win : Window) (w : Word) (h : EpisodeShadowed s) :
    EpisodeShadowed (controlWord p win w s) := by
  obtain ⟨hrearm, harm⟩ := classify_inv (s.shadow.get p) (writtenHead win w) (writtenArm win w)
  intro x hx
  unfold Machine.controlWord at hx ⊢
  dsimp only at hx ⊢
  rcases Side.eq_or_other p x with rfl | rfl
  · simp only [deliverEffect_shadow, PerSide.get_set_same]
    rcases deliverEffect_episode hx with ⟨he, hsame⟩ | ⟨he, hhead⟩
    · obtain ⟨hb, -, hold⟩ := hrearm he
      have hin : s.inEpisode x = true := by
        rw [hsame] at hx
        exact hx
      obtain ⟨-, hshadow⟩ := h x hin
      rw [hsame, hb]
      rw [hold] at hshadow
      exact ⟨rfl, hshadow⟩
    · rw [hhead, harm he]
      exact ⟨rfl, rfl⟩
  · have hin : s.inEpisode p.other = true := by
      rw [State.inEpisode, deliverEffect_chan_other] at hx
      exact hx
    simpa [deliverEffect_chan_other] using h p.other hin

/-- The channels after the start of a reload from CONFIGURED: episodes end, and every channel is in IDLE (R97). -/
theorem quitConfigured_chan (s : State) (x : Side) : (quitConfigured s).chan.get x =
    if s.inEpisode x then (s.chan.get x).left .idle else { s.chan.get x with state := .idle } := by
  have hchan : (quitConfigured s).chan = (reloadChannel .b (reloadChannel .a s)).chan := rfl
  have hb : (reloadChannel .a s).chan.get .b = s.chan.get .b := by
    rw [reloadChannel_chan_eq]
    rfl
  have hin : (reloadChannel .a s).inEpisode .b = s.inEpisode .b := congrArg (fun c => c.state.inEpisode) hb
  rw [hchan, reloadChannel_chan_eq, hin, hb, reloadChannel_chan_eq]
  cases x <;> rfl

theorem quitConfigured_state (s : State) (x : Side) : ((quitConfigured s).chan.get x).state = .idle := by
  rw [quitConfigured_chan]
  split <;> rfl

/-- So every command keeps the shadows. -/
theorem episodeShadowed_effect (c : Instr) (s : State) (h : EpisodeShadowed s) : EpisodeShadowed (effect c s) := by
  have acts := episodeShadowed_episodeActs
  have hsame : ∀ {s t : State}, t.shadow = s.shadow → t.chan = s.chan → EpisodeShadowed s → EpisodeShadowed t :=
    fun hshadow hchan => EpisodeShadowed.congr hshadow fun x hx => by
      rw [State.inEpisode, hchan] at hx
      exact ⟨hx, by rw [hchan]⟩
  refine acts.effect (fun p i g a w s _ => hsame (by simp) (by simp)) ?_ ?_ ?_ ?_ ?_ ?_ (fun _ => ?_) h
  · exact fun p win w s => EpisodeShadowed.controlWord p win w
  · intro s
    obtain ⟨e, he⟩ := arbiterStart_changes_engine s
    rw [he]
    exact hsame rfl rfl
  · exact thermalExpiry_keeps (fun _ _ s => hsame rfl rfl) fun x s _ => hsame (by simp) (by simp)
  · exact acts.sendSlot fun _ s => hsame rfl rfl
  · intro s hs
    unfold loadNFall
    dsimp only
    split
    · split
      · refine episodeShadowed_of_no_episode fun x => ?_
        show ((quitConfigured s).chan.get x).state.inEpisode = false
        rw [quitConfigured_state]
        rfl
      · exact hsame (s := s) rfl rfl hs
    · exact hs
  · exact fun s _ => episodeShadowed_of_no_episode fun x => by cases x <;> rfl
  · exact acts.loadNRise (fun _ s => hsame rfl rfl) s

/-- Settles O42. -/
theorem episodeHeadStaysShadowed : Obligations.EpisodeHeadStaysShadowed :=
  keptByStep_of_effect
    (fun _ _ => EpisodeShadowed.congr rfl fun _ hx => ⟨hx, rfl⟩) episodeShadowed_effect

/-! ## What the part emits (R128, R137, R141) -/

/-- What the emission's claim reads. -/
theorem EmissionSafe.congr {s t : State} (hlevel : t.framer.level = s.framer.level)
    (hhead : t.framer.head = s.framer.head) (hbudget : t.budget = s.budget)
    (hurgent : ∀ x, s.framer.urgent.get x = true → t.framer.urgent.get x = true)
    (hchan : ∀ x, s.inEpisode x = true → t.framer.urgent.get x = true ∨
      (t.inEpisode x = true ∧ (t.chan.get x).head = (s.chan.get x).head)) (h : EmissionSafe s) : EmissionSafe t := by
  obtain ⟨hsum, hside⟩ := h
  unfold EmissionSafe
  rw [hlevel, hhead, hbudget]
  refine ⟨hsum, fun x => ?_⟩
  rcases hside x with h0 | hu | ⟨hin, heq⟩
  · exact .inl h0
  · exact .inr (.inl (hurgent x hu))
  · rcases hchan x hin with hu | ⟨hin', hkept⟩
    · exact .inr (.inl hu)
    · exact .inr (.inr ⟨hin', heq.trans hkept.symm⟩)

/-- The same when framer, channels and budget stay as they are. -/
theorem EmissionSafe.congr_framer {s t : State} (hframer : t.framer = s.framer) (hchan : t.chan = s.chan)
    (hbudget : t.budget = s.budget) (h : EmissionSafe s) : EmissionSafe t :=
  h.congr (by rw [hframer]) (by rw [hframer]) hbudget (by simp [hframer])
    fun x hx => .inr ⟨by rw [State.inEpisode, hchan]; exact hx, by rw [hchan]⟩

/-- With both emitted levels 0 the emission is safe. -/
theorem emissionSafe_of_dark {s : State} (h : ∀ x, s.framer.level.get x = 0) : EmissionSafe s := by
  have ha : s.framer.level.a = 0 := h .a
  have hb : s.framer.level.b = 0 := h .b
  exact ⟨by omega, fun x => .inl (h x)⟩

/-- An episode that ends leaves its urgent OFF behind, and one that goes on keeps its head. -/
theorem emissionSafe_episodeActs : EpisodeActs EmissionSafe where
  frame s t hf := EmissionSafe.congr hf.level hf.head hf.budget (by simp [hf.urgent]) fun x hx =>
    .inr ⟨by rw [State.inEpisode, hf.chan]; exact hx, by rw [hf.chan]⟩
  steady x f s hf := EmissionSafe.congr rfl rfl rfl (fun _ h => h) fun y hy => .inr <| by
    rw [State.modChan_inEpisode, State.modChan_chan, PerSide.get_set]
    split
    · rename_i hyx
      subst hyx
      exact ⟨hf.1.trans hy, hf.2⟩
    · exact ⟨hy, rfl⟩
  leave x d o s _ _ := EmissionSafe.congr (by simp) (by simp) (by simp)
    (fun y hy => by rw [leaveEpisode_urgent_eq, PerSide.get_set]; split <;> simp [hy]) fun y hy => by
      by_cases hyx : y = x
      · exact .inl (by rw [leaveEpisode_urgent_eq, hyx, PerSide.get_set_same])
      · refine .inr ?_
        rw [State.inEpisode, leaveEpisode_chan_eq, PerSide.get_set, if_neg hyx]
        exact ⟨hy, rfl⟩

/-! ### What the words of the slots emit -/

/-- The emitted levels after a LEVEL word (R137, R141). -/
theorem sendLevel_level (x : Side) (s : State) :
    (sendLevel x s).framer.level =
      s.framer.level.set x (min (s.chan.get x).planned (s.budget - s.framer.level.get x.other)) := by
  unfold sendLevel markReduced limitLevel
  simp only [putWord, State.modChan_framer]
  split
  · split <;> simp
  · rfl

/-- The emitted heads after a LEVEL word (R137). -/
theorem sendLevel_head (x : Side) (s : State) :
    (sendLevel x s).framer.head = s.framer.head.set x (s.chan.get x).head := by
  unfold sendLevel markReduced
  simp only [putWord, State.modChan_framer]
  split
  · split <;> simp
  · rfl

/-- A LEVEL word leaves the urgent OFF flags and the budget. -/
theorem sendLevel_urgent_budget (x : Side) (s : State) :
    (sendLevel x s).framer.urgent = s.framer.urgent ∧ (sendLevel x s).budget = s.budget := by
  unfold sendLevel markReduced
  simp only [putWord, State.modChan_framer, State.modChan_budget]
  split
  · split <;> simp
  · exact ⟨rfl, rfl⟩

/-- A LEVEL word leaves the state and the head of every channel. -/
theorem sendLevel_steady (x : Side) (s : State) (y : Side) :
    ((sendLevel x s).chan.get y).state = (s.chan.get y).state ∧
      ((sendLevel x s).chan.get y).head = (s.chan.get y).head := by
  unfold sendLevel markReduced
  simp only [putWord, State.modChan_chan, PerSide.get_set]
  split
  · rename_i hyx
    subst hyx
    split
    · split <;> simp [Channel.emitted]
    · exact ⟨rfl, rfl⟩
  · rename_i hyx
    split
    · split <;> simp [PerSide.get_set, hyx]
    · exact ⟨rfl, rfl⟩

/-- A LEVEL word stays within what the other channel leaves of the budget, and names the episode head (R134, R141). -/
theorem EmissionSafe.sendLevel {s : State} (x : Side) (hin : s.inEpisode x = true) (h : EmissionSafe s) :
    EmissionSafe (sendLevel x s) := by
  obtain ⟨hsum, hside⟩ := h
  obtain ⟨hurgent, hbudget⟩ := sendLevel_urgent_budget x s
  unfold EmissionSafe
  rw [sendLevel_level, sendLevel_head, hurgent, hbudget]
  refine ⟨?_, fun y => ?_⟩
  · cases x <;> simp only [PerSide.set, PerSide.get, Side.other] <;> omega
  · obtain ⟨hstate, hhead⟩ := sendLevel_steady x s y
    rw [State.inEpisode, hstate, hhead, PerSide.get_set, PerSide.get_set]
    split
    · rename_i hyx
      subst hyx
      exact .inr (.inr ⟨hin, rfl⟩)
    · exact hside y

/-- The word of a slot keeps the emission safe: it lowers levels, or is a LEVEL word, or emits nothing (R133). -/
theorem EmissionSafe.sendSlot {s : State} (k : Fin 8) (h : EmissionSafe s) : EmissionSafe (sendSlot k s) := by
  have hurgent : ∀ x, EmissionSafe (sendUrgent x s) := by
    intro x
    obtain ⟨hsum, hside⟩ := h
    refine ⟨?_, fun y => ?_⟩
    · cases x <;> simp only [sendUrgent, putWord, PerSide.set] <;> omega
    · simp only [sendUrgent, putWord, PerSide.get_set]
      split
      · exact .inl rfl
      · exact hside y
  have hdark : EmissionSafe (sendAllOff s) := emissionSafe_of_dark fun x => by cases x <;> rfl
  have hword : ∀ {t : State} (w : Word) (d : BitVec 3), EmissionSafe t → EmissionSafe (putWord w d t) :=
    fun _ _ => EmissionSafe.congr rfl rfl rfl (fun _ h => h) fun _ hx => .inr ⟨hx, rfl⟩
  refine sendSlot_keeps hdark hurgent (fun x hin => h.sendLevel x hin) ?_ (hword _ _ h) k
  unfold sendReport
  split
  · exact hword _ _ h
  · refine hword _ _ ?_
    split <;> exact EmissionSafe.congr_framer (s := s) rfl rfl rfl h

/-- So every command keeps the emission safe; a load that succeeds sets its budget at dark lasers (R138, R140). -/
theorem emissionSafe_effect (c : Instr) (s : State) (h : EmissionSafe s)
    (hload : c = .loadNRise → s.framer.level.a = 0 ∧ s.framer.level.b = 0) : EmissionSafe (effect c s) := by
  have acts := emissionSafe_episodeActs
  refine acts.effect (fun p i g a w s _ => EmissionSafe.congr_framer (by simp) (by simp) (by simp)) ?_ ?_ ?_ ?_ ?_ ?_
    (fun hc _ => ?_) h
  · refine acts.controlWord (fun _ s => EmissionSafe.congr_framer rfl rfl rfl) fun x g s hidle hs => ?_
    refine EmissionSafe.congr (s := s) rfl rfl rfl (fun _ h => h) (fun y hy => .inr ?_) hs
    have hne : y ≠ x := by
      rintro rfl
      simp [State.inEpisode, hidle, ChanState.inEpisode] at hy
    simpa [State.inEpisode, PerSide.get_set, hne] using hy
  · intro s
    obtain ⟨e, he⟩ := arbiterStart_changes_engine s
    rw [he]
    exact EmissionSafe.congr_framer rfl rfl rfl
  · exact thermalExpiry_keeps (fun _ _ s => EmissionSafe.congr_framer rfl rfl rfl)
      fun x s _ => EmissionSafe.congr_framer (by simp) (by simp) (by simp)
  · exact fun k s hs => hs.sendSlot k
  · exact acts.loadNFall fun s => EmissionSafe.congr_framer rfl rfl rfl
  · exact fun s _ => emissionSafe_of_dark fun x => by cases x <;> rfl
  · obtain ⟨ha, hb⟩ := hload hc
    have hdark : ∀ x, s.framer.level.get x = 0 := fun x => by cases x <;> assumption
    unfold loadNRise loadSucceeds loadFails
    dsimp only
    split
    · split
      · split
        · exact emissionSafe_of_dark fun x => by simpa [applyImage] using hdark x
        · exact emissionSafe_of_dark hdark
      · exact emissionSafe_of_dark fun x => by simpa using hdark x
    · exact emissionSafe_of_dark hdark

/-- Settles O53. -/
theorem emissionStaysSafe : Obligations.EmissionStaysSafe := by
  intro c s t h hload hexec
  rw [effect_eq_of_exec hexec]
  exact emissionSafe_effect c s h hload

end Sys2Proof.Machine
end

section
/-!
PROOFS. What an image leaves behind (O43): the request places belong to channels in an episode, and outside CONFIGURED
nothing of the image is left.
-/

namespace Sys2Proof.Machine

/-! ## The request places (R99–R101) -/

/-- A request waits only for a channel in an episode. -/
def PlacesInEpisode (s : State) : Prop := ∀ x, s.engine.place.get x ≠ none → s.inEpisode x = true

theorem PlacesInEpisode.congr {s t : State} (hplace : t.engine.place = s.engine.place) (hchan : t.chan = s.chan)
    (h : PlacesInEpisode s) : PlacesInEpisode t := by
  intro x hx
  rw [State.inEpisode, hchan]
  exact h x (hplace ▸ hx)

/-- A place filled for a channel in an episode, or emptied. -/
theorem PlacesInEpisode.setPlace {s : State} (x : Side) (r : Option ReqClass)
    (hin : r ≠ none → s.inEpisode x = true) (h : ∀ y, y ≠ x → s.engine.place.get y ≠ none → s.inEpisode y = true) :
    PlacesInEpisode (s.setPlace x r) := by
  intro y hy
  rw [State.setPlace_engine, PerSide.get_set] at hy
  split at hy
  · rename_i hyx
    exact hyx ▸ hin hy
  · rename_i hyx
    exact h y hyx hy

/-- An ended episode withdraws its request (R92). -/
theorem placesInEpisode_episodeActs : EpisodeActs PlacesInEpisode where
  frame s t hf := PlacesInEpisode.congr hf.place hf.chan
  steady x f s hf h y hy := by
    rw [State.modChan_inEpisode]
    split
    · rename_i hyx
      exact hf.1.trans (hyx ▸ h y hy)
    · exact h y hy
  leave x d o s _ _ h y hy := by
    rw [leaveEpisode_place_eq, PerSide.get_set] at hy
    split at hy
    · exact absurd rfl hy
    · rename_i hyx
      rw [State.inEpisode, leaveEpisode_chan_eq, PerSide.get_set, if_neg hyx]
      exact h y hy

/-- So every command keeps the places in the episodes. -/
theorem placesInEpisode_effect (c : Instr) (s : State) (h : PlacesInEpisode s) : PlacesInEpisode (effect c s) := by
  have acts := placesInEpisode_episodeActs
  refine acts.effect (fun p i g a w s _ => PlacesInEpisode.congr (by simp) (by simp)) ?_ ?_ ?_ ?_ ?_ ?_ (fun _ => ?_) h
  · refine acts.controlWord (fun _ s => PlacesInEpisode.congr rfl rfl) fun x g s _ hs => ?_
    refine PlacesInEpisode.setPlace x _ (fun _ => ?_) fun y hyx hy => ?_
    · simp [State.modChan_inEpisode, Channel.armed, ChanState.inEpisode]
    · rw [State.modChan_inEpisode, if_neg hyx]
      exact hs y hy
  · intro s hs
    unfold arbiterStart
    split
    · exact hs
    · split
      · exact hs
      · rename_i x c _
        exact PlacesInEpisode.congr (s := s.setPlace x none) rfl rfl
          (PlacesInEpisode.setPlace x none (fun hn => absurd rfl hn) fun y _ => hs y)
  · refine thermalExpiry_keeps (fun _ _ s => PlacesInEpisode.congr rfl rfl) fun x s hst hs => ?_
    have hin : s.inEpisode x = true := by
      rw [State.inEpisode]
      revert hst
      cases (s.chan.get x).state <;> decide
    unfold postRequest
    split
    · exact PlacesInEpisode.setPlace x _ (fun _ => hin) fun y _ => hs y
    · exact PlacesInEpisode.setPlace x _ (fun _ => hin) fun y _ => hs y
    · exact hs
  · exact acts.sendSlot fun _ s => PlacesInEpisode.congr rfl rfl
  · exact acts.loadNFall fun s => PlacesInEpisode.congr rfl rfl
  · exact fun s _ x hx => absurd (by cases x <;> rfl) hx
  · exact acts.loadNRise (fun _ s => PlacesInEpisode.congr rfl rfl) s

/-! ## Outside CONFIGURED -/

/-- Nothing of an image is in force (R22, R25, R34, R45, R98, R115, R129, R149, R166). -/
def ImageGone (s : State) : Prop :=
  (∀ x, (s.chan.get x).state = .idle ∧ s.engine.place.get x = none ∧ s.shadow.get x = .unknown) ∧
    s.held = [] ∧ (∀ i : Fin 16, (s.windows[i.val]).enabled = false) ∧
    (∀ i : Fin 4, (s.watch[i.val]).enabled = false) ∧ (∀ k : Fin 8, s.framer.baseMap[k.val] = .none) ∧
    s.thermal.counter = none ∧ s.freeze.active = false

/-- What that claim reads, the channels up to their states. -/
theorem ImageGone.congr {s t : State} (hstate : ∀ x, (t.chan.get x).state = (s.chan.get x).state)
    (hplace : t.engine.place = s.engine.place) (hshadow : t.shadow = s.shadow) (hheld : t.held = s.held)
    (hwindows : t.windows = s.windows) (hwatch : t.watch = s.watch) (hmap : t.framer.baseMap = s.framer.baseMap)
    (hcounter : t.thermal.counter = s.thermal.counter) (hfreeze : t.freeze.active = s.freeze.active)
    (h : ImageGone s) : ImageGone t := by
  unfold ImageGone
  simp only [hstate, hplace, hshadow, hheld, hwindows, hwatch, hmap, hcounter, hfreeze]
  exact h

/-- Outside CONFIGURED the image is gone. -/
def GoneUnlessConfigured (s : State) : Prop := s.loader.config ≠ .configured → ImageGone s

/-- An act that stays in CONFIGURED has nothing to keep. -/
theorem goneUnlessConfigured_of_configured {s : State} (hc : s.loader.config = .configured) :
    GoneUnlessConfigured s := fun hn => absurd hc hn

/-- An act outside CONFIGURED keeps the claim when it keeps what the claim reads. -/
theorem GoneUnlessConfigured.of_gone {s t : State} (hconfig : t.loader.config = s.loader.config)
    (hgone : ImageGone s → ImageGone t) (h : GoneUnlessConfigured s) : GoneUnlessConfigured t :=
  fun hn => hgone (h (hconfig ▸ hn))

theorem writeRise_loader (x : Side) (s : State) : (writeRise x s).loader = s.loader := by
  unfold writeRise
  split
  case h_2 => split <;> simp [lenientWrite, earlyGate]
  all_goals simp [earlyGate]

theorem writeFall_loader (x : Side) (s : State) : (writeFall x s).loader = s.loader := by
  unfold writeFall
  split
  · split <;> simp
  · rfl

theorem servoRise_loader (x : Side) (s : State) : (servoRise x s).loader = s.loader := by
  unfold servoRise
  split
  case h_1 =>
    unfold servoOverlap
    dsimp only
    split <;> simp
  all_goals rfl

/-- A channel in IDLE is in no episode. -/
theorem ImageGone.inEpisode {s : State} (h : ImageGone s) (x : Side) : s.inEpisode x = false := by
  rw [State.inEpisode, (h.1 x).1]
  rfl

/-- With the image gone no request waits, so the arbiter starts nothing (R103). -/
theorem ImageGone.arbiterStart {s : State} (h : ImageGone s) : arbiterStart s = s := by
  unfold Machine.arbiterStart
  split
  · rfl
  · have ha : s.engine.place.a = none := (h.1 .a).2.1
    have hb : s.engine.place.b = none := (h.1 .b).2.1
    simp [ha, hb, chooseRequest]

/-- A result finds its channel in IDLE, and is discarded (R78). -/
theorem receive_of_idle (r : Computation) (n : Nat) {c : Channel} (h : c.state = .idle) : c.receive r n = c := by
  unfold Channel.receive
  rw [h]
  split
  · split <;> simp [ChanState.recomputes]
  · rfl

/-- Out of CONFIGURED every act finds its channel in IDLE. -/
theorem goneUnlessConfigured_acts : KeptByActs GoneUnlessConfigured where
  link l s := .of_gone rfl (.congr (fun _ => rfl) rfl rfl rfl rfl rfl rfl rfl rfl)
  sample v s := .of_gone rfl (.congr (fun _ => rfl) rfl rfl rfl rfl rfl rfl rfl rfl)
  writeGateLow x s := .of_gone rfl (.congr (fun _ => rfl) rfl rfl rfl rfl rfl rfl rfl rfl)
  servoGate x l s := .of_gone rfl (.congr (fun _ => rfl) rfl rfl rfl rfl rfl rfl rfl rfl)
  frzGate l s := .of_gone rfl (.congr (fun _ => rfl) rfl rfl rfl rfl rfl rfl rfl rfl)
  kinds p k s := .of_gone rfl (.congr (fun _ => rfl) rfl rfl rfl rfl rfl rfl rfl rfl)
  report r s := .of_gone (by simp) (.congr (by simp) (by simp) (by simp) (by simp) (by simp) (by simp) (by simp)
    (by simp) (by simp))
  capture x g n v s := .of_gone (by simp) (.congr (by simp) (by simp) (by simp) (by simp) (by simp) (by simp)
    (by simp) (by simp) (by simp))
  offer p i g a w s hin := .of_gone (by simp) fun h => absurd (h.inEpisode p ▸ hin) Bool.false_ne_true
  control p win w s hc _ := goneUnlessConfigured_of_configured (by simpa using hc)
  writeFall x s hc _ := goneUnlessConfigured_of_configured (by rw [writeFall_loader]; exact hc)
  servoRise x s hc _ := goneUnlessConfigured_of_configured (by rw [servoRise_loader]; exact hc)
  freezeRise s hc _ := goneUnlessConfigured_of_configured (by simpa using hc)
  freezeFall s hc _ := goneUnlessConfigured_of_configured (by simpa using hc)
  arbiterStart s := .of_gone (by obtain ⟨e, he⟩ := arbiterStart_changes_engine s; rw [he])
    fun h => by rw [h.arbiterStart]; exact h
  computationEnd s := by
    unfold computationEnd
    split
    · exact id
    · refine .of_gone rfl fun h => .congr (s := s) (fun x => ?_) rfl rfl rfl rfl rfl rfl rfl rfl h
      simp only [State.modChan_chan, PerSide.get_set]
      split
      · rename_i hx
        rw [hx, receive_of_idle _ _ (h.1 _).1]
      · rfl
  leadExpiry x s := by
    unfold leadExpiry
    split
    · rename_i hst
      exact .of_gone rfl fun h => by simp [(h.1 x).1] at hst
    · exact id
  kickExpiry x s := by
    unfold kickExpiry
    split
    · rename_i hst
      exact .of_gone rfl fun h => by simp [(h.1 x).1] at hst
    · exact id
  dwellExpiry x s := by
    unfold dwellExpiry
    split
    · rename_i hst
      exact .of_gone (by simp) fun h => by simp [(h.1 x).1, ChanState.dwells] at hst
    · exact id
  loadWord w s := by
    unfold loadWord
    split
    · exact .of_gone rfl (.congr (fun _ => rfl) rfl rfl rfl rfl rfl rfl rfl rfl)
    · exact id
  loadPortArmed s := .of_gone rfl (.congr (fun _ => rfl) rfl rfl rfl rfl rfl rfl rfl rfl)
  rstNRelease s := .of_gone rfl (.congr (fun _ => rfl) rfl rfl rfl rfl rfl rfl rfl rfl)

/-- The start of a reload leaves nothing of the image (R169): every channel is in IDLE, and no entry is held and no
request waits, since both belong to channels in an episode (R36, R45). -/
theorem imageGone_quitConfigured {s : State} (hheld : HeldBounded s) (hplace : PlacesInEpisode s) :
    ImageGone (quitConfigured s) := by
  have hidle := quitConfigured_state s
  have hout : ∀ x, (quitConfigured s).inEpisode x = false := fun x => by
    rw [State.inEpisode, hidle x]
    rfl
  have hheld' : HeldBounded (quitConfigured s) := HeldBounded.congr_chan rfl rfl
    (heldBounded_episodeActs.reloadChannel .b _ (heldBounded_episodeActs.reloadChannel .a s hheld))
  have hplace' : PlacesInEpisode (quitConfigured s) := PlacesInEpisode.congr rfl rfl
    (placesInEpisode_episodeActs.reloadChannel .b _ (placesInEpisode_episodeActs.reloadChannel .a s hplace))
  refine ⟨fun x => ⟨hidle x, ?_, by cases x <;> rfl⟩, ?_, ?_, ?_, ?_, rfl, rfl⟩
  · by_contra hne
    exact Bool.false_ne_true ((hout x).symm.trans (hplace' x hne))
  · refine List.eq_nil_iff_forall_not_mem.mpr fun e he => ?_
    exact Bool.false_ne_true ((hout _).symm.trans (hheld'.2.2 e he))
  · intro i; simp [quitConfigured, Window.disabled]
  · intro i; simp [quitConfigured, WatchEntry.disabled]
  · intro k; simp [quitConfigured]

/-- A slot's word leaves the loader alone. -/
theorem sendSlot_loader (k : Fin 8) (s : State) : (sendSlot k s).loader = s.loader := by
  have hlevel : ∀ x, (sendLevel x s).loader = s.loader := by
    intro x
    unfold sendLevel markReduced
    simp only [putWord, State.modChan_loader]
    split
    · split <;> simp
    · rfl
  have hreport : (sendReport s).loader = s.loader := by
    unfold sendReport
    split
    · rfl
    · simp only [putWord]
      split <;> rfl
  exact sendSlot_keeps (P := fun t => t.loader = s.loader) rfl (fun _ => rfl) (fun x _ => hlevel x) hreport rfl k

/-- Slot starts keep what an image has left. -/
theorem GoneUnlessConfigured.slotStart (part : SlotPart) {s : State} (h : GoneUnlessConfigured s) :
    GoneUnlessConfigured (slotStart part s) := by
  refine slotStart_keeps ?_ ?_ ?_ ?_ ?_ ?_ part s h
  · exact fun k m s => .of_gone rfl (.congr (fun _ => rfl) rfl rfl rfl rfl rfl rfl rfl rfl)
  · exact fun s => .of_gone rfl (.congr (fun _ => rfl) rfl rfl rfl rfl rfl rfl rfl rfl)
  · exact fun s => .of_gone rfl (.congr (fun x => by cases x <;> rfl) rfl rfl rfl rfl rfl rfl rfl rfl)
  · refine fun s => .of_gone rfl fun h =>
      .congr (s := s) (fun x => by cases x <;> rfl) rfl rfl rfl rfl rfl rfl ?_ rfl h
    obtain ⟨-, -, -, -, -, hcounter, -⟩ := h
    simp only [frameStart, Thermal.countFrame]
    split
    · rfl
    · split <;> simp [hcounter]
  · exact fun s => .of_gone rfl (.congr (fun _ => rfl) rfl rfl rfl rfl rfl rfl rfl rfl)
  · intro k s h hn
    rw [sendSlot_loader] at hn
    have hoff : sendSlot k s = sendAllOff s := if_pos (by simp [State.configured, hn])
    rw [hoff]
    exact (h hn).congr (fun _ => rfl) rfl rfl rfl rfl rfl rfl rfl rfl

/-- Every command keeps it: the commands that take CONFIGURED away leave nothing of the image (R19, R169), and a load
that fails finds nothing of one (R170). -/
theorem goneUnlessConfigured_effect (c : Instr) {s : State} (hheld : HeldBounded s) (hplace : PlacesInEpisode s)
    (h : GoneUnlessConfigured s) : GoneUnlessConfigured (effect c s) := by
  refine goneUnlessConfigured_acts.effect h fun halone => ?_
  cases c with
  | writeGateRise x =>
    refine unlessReset_keeps h (takeEdge_keeps h ?_ fun hc _ => ?_)
    · exact h.of_gone rfl (.congr (fun _ => rfl) rfl rfl rfl rfl rfl rfl rfl rfl)
    · exact goneUnlessConfigured_of_configured (by rw [writeRise_loader]; exact hc)
  | thermalExpiry =>
    have hloader : (thermalExpiry s).loader = s.loader :=
      thermalExpiry_keeps (P := fun t => t.loader = s.loader) (fun _ _ _ => id)
        (fun x t _ ht => by simpa using ht) s rfl
    refine unlessReset_keeps h fun hn => ?_
    rw [hloader] at hn
    have hnone : thermalExpiry s = s := if_neg (by simp [State.configured, hn])
    rw [hnone]
    exact h hn
  | slotStart part => exact unlessReset_keeps h (h.slotStart part)
  | loadNFall =>
    refine unlessReset_keeps h ?_
    unfold loadNFall
    dsimp only
    split
    · intro _
      split
      · exact (imageGone_quitConfigured hheld hplace).congr (fun _ => rfl) rfl rfl rfl rfl rfl rfl rfl rfl
      · rename_i hc
        exact (h (by simpa [State.configured] using hc)).congr (fun _ => rfl) rfl rfl rfl rfl rfl rfl rfl rfl
    · exact h
  | loadNRise =>
    refine unlessReset_keeps h ?_
    unfold loadNRise loadSucceeds loadFails
    dsimp only
    split
    · rename_i hloading
      have hgone : ImageGone s := h (by rw [hloading]; decide)
      split
      · refine goneUnlessConfigured_of_configured ?_
        split
        · rw [freezeRise_loader]; rfl
        · rfl
      · exact fun _ => hgone.congr (by simp) (by simp) (by simp) (by simp) (by simp) (by simp) (by simp) (by simp)
          (by simp)
    · exact h.of_gone rfl (.congr (fun _ => rfl) rfl rfl rfl rfl rfl rfl rfl rfl)
  | rstNAssert =>
    intro _
    refine ⟨fun x => ?_, rfl, fun i => ?_, fun i => ?_, fun k => ?_, rfl, rfl⟩
    · cases x <;> exact ⟨rfl, rfl, rfl⟩
    · simp [effect, exec, execRstNAssert, rstNAssert, State.reset, Window.disabled]
    · simp [effect, exec, execRstNAssert, rstNAssert, State.reset, WatchEntry.disabled]
    · simp [effect, exec, execRstNAssert, rstNAssert, State.reset, Framer.reset]
  | _ => exact absurd halone Bool.false_ne_true

/-- Settles O43: the places follow the episodes, and the image's own parts the configuration state. -/
theorem unconfiguredPartStaysQuiet : Obligations.UnconfiguredPartStaysQuiet := by
  intro s t hheld hquiet hstep
  refine (keptByStep_of_effect (P := fun u => HeldBounded u ∧ QuietUnconfigured u) (fun q u hu => ?_) (fun c u hu => ?_)
    s t ⟨hheld, hquiet⟩ hstep).2
  · obtain ⟨hheld, hplace, hgone⟩ := hu
    exact ⟨hheld.congr_chan rfl rfl, PlacesInEpisode.congr (s := u) rfl rfl hplace,
      GoneUnlessConfigured.of_gone (s := u) rfl (.congr (fun _ => rfl) rfl rfl rfl rfl rfl rfl rfl rfl) hgone⟩
  · obtain ⟨hheld, hplace, hgone⟩ := hu
    exact ⟨heldBounded_effect c u hheld, placesInEpisode_effect c u hplace,
      goneUnlessConfigured_effect c hheld hplace hgone⟩

end Sys2Proof.Machine
end

section
/-!
PROOFS. The heat channels' own claim of the steps (chapter 6, R150–R153): banks, flags, timers and record agree with the
state, and the freeze flags with the channels.
-/

namespace Sys2Proof.Machine

/-! ## One channel -/

namespace Channel.wf

variable {c : Channel}

/-- An ended episode empties what a channel outside the episodes has empty (R92). -/
theorem left (h : c.wf) {d : ChanState} (hd : d = .idle ∨ d = .faulted ∨ d = .frozen) : (c.left d).wf := by
  obtain ⟨-, -, -, -, -, -, -, -, -, hintervals, hduration⟩ := h
  rcases hd with rfl | rfl | rfl <;> simp [Channel.wf, Channel.left, hintervals, hduration]

/-- From one state outside the episodes to another. -/
theorem outside (h : c.wf) (hc : c.state = .idle ∨ c.state = .faulted ∨ c.state = .frozen) {d : ChanState}
    (hd : d = .idle ∨ d = .faulted ∨ d = .frozen) : ({ c with state := d } : Channel).wf := by
  unfold Channel.wf at h ⊢
  rcases hc with hc | hc | hc <;> rcases hd with rfl | rfl | rfl <;> simp_all

/-- An accepted arm (R73). -/
theorem armed (h : c.wf) (hc : c.state = .idle) (g : Fin 12) : (c.armed g).wf := by
  unfold Channel.wf at h ⊢
  simp_all [Channel.armed, EpisodeRecord.cleared]

/-- A delivered ARM result (R77). -/
theorem toPreheat (h : c.wf) (hc : c.state = .pending) (p : Plan) (n : Nat) : (c.toPreheat p n).wf := by
  unfold Channel.wf at h ⊢
  simp_all [Channel.toPreheat]

/-- A lead expiry (R79). -/
theorem toReady (h : c.wf) (hc : c.state = .preheat) (n : Nat) : (c.toReady n).wf := by
  unfold Channel.wf at h ⊢
  simp_all [Channel.toReady]

/-- A write interval that begins (R82). -/
theorem toWriting (h : c.wf) (hc : c.state = .ready ∨ c.state = .holding) (k : Nat) : (c.toWriting k).wf := by
  unfold Channel.wf at h ⊢
  by_cases hk : 1 ≤ k <;> rcases hc with hc | hc <;> simp_all [Channel.toWriting]

/-- A write interval that begins from PREHEAT, with the lead stopped (R81). -/
theorem lenientWriting (h : c.wf) (hc : c.state = .preheat) (k : Nat) : Channel.wf (Channel.toWriting k
    { c with leadTimer := .stopped, record := { c.record with lenient := true } }) := by
  unfold Channel.wf at h ⊢
  by_cases hk : 1 ≤ k <;> simp_all [Channel.toWriting]

/-- A write interval that ends (R84, R85). -/
theorem toHolding (h : c.wf) (hc : c.state = .writing) (n : Nat) : (c.toHolding n).wf := by
  unfold Channel.wf at h ⊢
  simp_all [Channel.toHolding]

/-- A staged plan swapped in (R87). -/
theorem swapped (h : c.wf) : c.swapped.wf := by
  unfold Channel.wf at h ⊢
  unfold Channel.swapped
  split <;> simp_all

/-- A delivered result is taken in the state that it is for, or discarded (R77, R78, R86). -/
theorem receive (h : c.wf) (r : Computation) (n : Nat) : (c.receive r n).wf := by
  unfold Channel.receive
  split
  · split
    · split
      · rename_i hc
        exact h.toPreheat hc _ _
      · exact h
    · split
      · rename_i hc
        have hst : c.state = .writing ∨ c.state = .holding := by
          revert hc
          cases c.state <;> simp [ChanState.recomputes]
        unfold Channel.wf at h ⊢
        simp_all
      · exact h
  · exact h

/-- A kick expiry (R83). -/
theorem kickExpired (h : c.wf) : ({ c with kickFlag := false, kickTimer := .stopped } : Channel).wf := by
  unfold Channel.wf at h ⊢
  simp_all

/-- What a channel's form does not read: the counts of running timers, and the rest of the record. -/
theorem congr {d : Channel} (hstate : d.state = c.state) (hlive : d.live = c.live) (hstaged : d.staged = c.staged)
    (hfirst : d.firstInterval = c.firstInterval) (hflag : d.kickFlag = c.kickFlag)
    (hlead : d.leadTimer = .stopped ↔ c.leadTimer = .stopped)
    (hkick : d.kickTimer = .stopped ↔ c.kickTimer = .stopped) (hdwell : d.dwell.isSome = c.dwell.isSome)
    (hintervals : d.record.intervals = c.record.intervals) (hduration : d.record.duration ≤ 65535) (h : c.wf) :
    d.wf := by
  obtain ⟨h1, h2, h3, h4, h5, h6, h7, h8, h9, h10, -⟩ := h
  unfold Channel.wf
  simp only [hstate, hlive, hstaged, hfirst, hflag, ne_eq, hlead, hkick, hdwell, hintervals]
  exact ⟨h1, h2, h3, h4, h5, h6, h7, h8, h9, h10, hduration⟩

theorem duration (h : c.wf) : c.record.duration ≤ 65535 := by
  obtain ⟨-, -, -, -, -, -, -, -, -, -, hduration⟩ := h
  exact hduration

theorem countSlot (h : c.wf) : c.countSlot.wf := by
  have htimer : ∀ t : Timer, t.countSlot = .stopped ↔ t = .stopped := by
    intro t
    cases t <;> simp [Timer.countSlot]
  exact congr (c := c) rfl rfl rfl rfl rfl (htimer _) (htimer _) rfl rfl h.duration h

theorem countFrame (h : c.wf) : c.countFrame.wf := by
  refine congr (c := c) rfl rfl rfl rfl rfl Iff.rfl Iff.rfl ?_ ?_ ?_ h
  · simp only [Channel.countFrame]
    split <;> simp
  · simp only [Channel.countFrame]
    split <;> rfl
  · simp only [Channel.countFrame, Config.durationMax]
    split
    · exact Nat.min_le_right _ _
    · exact h.duration

theorem emitted (h : c.wf) (k level : Nat) : (c.emitted k level).wf := by
  have htimer : ∀ (n : Nat) (t : Timer), t.load n = .stopped ↔ t = .stopped := by
    intro n t
    cases t <;> simp [Timer.load]
  exact congr (c := c) rfl rfl rfl rfl rfl (htimer _ _) (htimer _ _) rfl rfl h.duration h

theorem flags (h : c.wf) (early lenient reduced overlap : Bool) : Channel.wf { c with record := { c.record with
    early := early, lenient := lenient, reduced := reduced, overlap := overlap } } :=
  congr (c := c) rfl rfl rfl rfl rfl Iff.rfl Iff.rfl rfl rfl h.duration h

end Channel.wf

/-! ## A channel under the freeze -/

/-- A channel is well formed, and the freeze flags of its side agree with it (R150–R153). -/
def Settled (f : Freeze) (x : Side) (c : Channel) : Prop :=
  c.wf ∧ (f.wait.get x = true → c.state = .writing ∧ f.active = true) ∧
    (f.frozenEpisode.get x = true → c.state = .frozen) ∧ (c.state = .frozen → f.active = true)

theorem channelsWf_iff (s : State) : ChannelsWf s ↔ ∀ x, Settled s.freeze x (s.chan.get x) :=
  ⟨fun h x => ⟨h.1 x, h.2 x⟩, fun h => ⟨fun x => (h x).1, fun x => (h x).2⟩⟩

/-- A change of the channel within its state. -/
theorem Settled.same_state {f : Freeze} {x : Side} {c d : Channel} (h : Settled f x c) (hstate : d.state = c.state)
    (hwf : d.wf) : Settled f x d := by
  unfold Settled
  rw [hstate]
  exact ⟨hwf, h.2⟩

/-- A channel that neither flag of the freeze marks. -/
theorem settled_of_unmarked {f : Freeze} {x : Side} {c : Channel} (hwf : c.wf) (hwait : f.wait.get x = false)
    (hflag : f.frozenEpisode.get x = false) (hstate : c.state ≠ .frozen) : Settled f x c :=
  ⟨hwf, by simp [hwait], by simp [hflag], fun h => absurd h hstate⟩

/-- A FROZEN channel, which waits for nothing. -/
theorem settled_of_frozen {f : Freeze} {x : Side} {c : Channel} (hwf : c.wf) (hwait : f.wait.get x = false)
    (hstate : c.state = .frozen) (hactive : f.active = true) : Settled f x c :=
  ⟨hwf, by simp [hwait], fun _ => hstate, fun _ => hactive⟩

/-- Outside WRITING no channel has a freeze wait. -/
theorem Settled.wait_eq_false {f : Freeze} {x : Side} {c : Channel} (h : Settled f x c) (hstate : c.state ≠ .writing) :
    f.wait.get x = false := by
  by_contra hwait
  exact hstate (h.2.1 (by simpa using hwait)).1

/-- Outside FROZEN no channel has a frozen-episode flag. -/
theorem Settled.frozenEpisode_eq_false {f : Freeze} {x : Side} {c : Channel} (h : Settled f x c)
    (hstate : c.state ≠ .frozen) : f.frozenEpisode.get x = false := by
  by_contra hflag
  exact hstate (h.2.2.1 (by simpa using hflag))

/-! ## Both channels -/

/-- An act that leaves the channels and the freeze flags. -/
theorem ChannelsWf.congr {s t : State} (hchan : t.chan = s.chan) (hactive : t.freeze.active = s.freeze.active)
    (hwait : t.freeze.wait = s.freeze.wait) (hflag : t.freeze.frozenEpisode = s.freeze.frozenEpisode)
    (h : ChannelsWf s) : ChannelsWf t := by
  unfold ChannelsWf FreezeWf
  rw [hchan, hactive, hwait, hflag]
  exact h

/-- An act on one side. -/
theorem ChannelsWf.update {s t : State} (x : Side) (hx : Settled t.freeze x (t.chan.get x))
    (hchan : t.chan.get x.other = s.chan.get x.other) (hactive : t.freeze.active = s.freeze.active)
    (hwait : t.freeze.wait.get x.other = s.freeze.wait.get x.other)
    (hflag : t.freeze.frozenEpisode.get x.other = s.freeze.frozenEpisode.get x.other) (h : ChannelsWf s) :
    ChannelsWf t := by
  rw [channelsWf_iff] at h ⊢
  intro y
  rcases Side.eq_or_other x y with rfl | rfl
  · exact hx
  · have hy := h x.other
    unfold Settled at hy ⊢
    rw [hchan, hactive, hwait, hflag]
    exact hy

theorem ChannelsWf.modChan {s : State} (h : ChannelsWf s) (x : Side) {f : Channel → Channel}
    (hf : Settled s.freeze x (f (s.chan.get x))) : ChannelsWf (s.modChan x f) :=
  ChannelsWf.update (s := s) x (by simpa using hf) (by simp) rfl rfl rfl h

/-- A change of a channel within its state. -/
theorem ChannelsWf.modChan_same {s : State} (h : ChannelsWf s) (x : Side) {f : Channel → Channel}
    (hstate : (f (s.chan.get x)).state = (s.chan.get x).state) (hwf : (s.chan.get x).wf → (f (s.chan.get x)).wf) :
    ChannelsWf (s.modChan x f) :=
  h.modChan x (((channelsWf_iff s).mp h x).same_state hstate (hwf (h.1 x)))

/-- A channel out of WRITING and FROZEN that goes on to another state but FROZEN. -/
theorem ChannelsWf.modChan_unmarked {s : State} (h : ChannelsWf s) (x : Side) {f : Channel → Channel}
    (hwriting : (s.chan.get x).state ≠ .writing) (hfrozen : (s.chan.get x).state ≠ .frozen)
    (hstate : (f (s.chan.get x)).state ≠ .frozen) (hwf : (f (s.chan.get x)).wf) : ChannelsWf (s.modChan x f) := by
  have hx := (channelsWf_iff s).mp h x
  exact h.modChan x
    (settled_of_unmarked hwf (hx.wait_eq_false hwriting) (hx.frozenEpisode_eq_false hfrozen) hstate)

theorem ChannelsWf.raise {s : State} (h : ChannelsWf s) (p : Side) (k : EventKind) (i : Bool) :
    ChannelsWf (raiseEvent p k i s) :=
  h.congr (by simp) (by simp) (by simp) (by simp)

/-- An episode that ends under no freeze wait (R92). -/
theorem ChannelsWf.leave {s : State} (h : ChannelsWf s) (x : Side) {d : ChanState} (o : EpisodeOutcome)
    (hwait : s.freeze.wait.get x = false) (hfrozen : (s.chan.get x).state ≠ .frozen)
    (hd : d = .idle ∨ d = .faulted) : ChannelsWf (leaveEpisode x d o s) := by
  have hx := (channelsWf_iff s).mp h x
  refine h.update x ?_ (by simp [leaveEpisode_chan_eq]) (by simp) (by simp) (by simp)
  rw [leaveEpisode_chan_eq, PerSide.get_set_same, leaveEpisode_freeze]
  refine settled_of_unmarked (hx.1.left ?_) hwait (hx.frozenEpisode_eq_false hfrozen) ?_
  · rcases hd with rfl | rfl
    · exact .inl rfl
    · exact .inr (.inl rfl)
  · rcases hd with rfl | rfl <;> simp [Channel.left]

/-- An episode that a freeze ends (R150, R151). -/
theorem ChannelsWf.leaveFrozen {s : State} (h : ChannelsWf s) (x : Side) (hactive : s.freeze.active = true) :
    ChannelsWf (leaveFrozen x s) := by
  refine h.update x ?_ (by simp [Machine.leaveFrozen, leaveEpisode_chan_eq]) (by simp)
    (by simp [Machine.leaveFrozen]) (by simp [Machine.leaveFrozen])
  refine settled_of_frozen ?_ (by simp [Machine.leaveFrozen]) ?_ (by simpa using hactive)
  · simpa [Machine.leaveFrozen, leaveEpisode_chan_eq] using (h.1 x).left (.inr (.inr rfl))
  · simp [Machine.leaveFrozen, leaveEpisode_chan_eq, Channel.left]

/-! ## The acts -/

/-- A channel in an episode state is not FROZEN. -/
theorem ne_frozen_of_inEpisode {st : ChanState} (h : st.inEpisode = true) : st ≠ .frozen := by
  rintro rfl
  exact absurd h (by decide)

/-- An episode ended by a CONTROL word: to IDLE, or under a freeze wait, which an active freeze set, to FROZEN
(R151). -/
theorem ChannelsWf.leaveByControl {s : State} (h : ChannelsWf s) (x : Side) (o : EpisodeOutcome)
    (hin : s.inEpisode x = true) : ChannelsWf (leaveByControl x o s) := by
  have hx := (channelsWf_iff s).mp h x
  by_cases hwait : s.freeze.wait.get x = true
  · have hchan := leaveByControl_chan_eq x o s
    rw [if_pos hwait] at hchan
    refine h.update x ?_ (by simp [hchan]) (by simp) ?_ ?_
    · rw [hchan, PerSide.get_set_same]
      refine settled_of_frozen (hx.1.left (.inr (.inr rfl))) ?_ rfl (by simpa using (hx.2.1 hwait).2)
      simp [leaveByControl_eq, hwait]
    all_goals simp [leaveByControl_eq, hwait]
  · have hplain : Machine.leaveByControl x o s = leaveEpisode x .idle o s := by
      rw [leaveByControl_eq]
      exact if_neg hwait
    rw [hplain]
    exact h.leave x o (by simpa using hwait) (ne_frozen_of_inEpisode hin) (.inl rfl)

/-- A CONTROL word (R73–R76, R88–R91). -/
theorem ChannelsWf.controlWord {s : State} (h : ChannelsWf s) (p : Side) (win : Window) (w : Word) :
    ChannelsWf (controlWord p win w s) := by
  refine deliverEffect_keeps (P := ChannelsWf) (fun k s hs => hs.raise p k false)
    (fun o s hin hs => hs.leaveByControl p o hin) (fun g s hidle hs => ?_) (fun s hidle hs => ?_)
    (fun s hfaulted hs => ?_) _ (ChannelsWf.congr (s := s) rfl rfl rfl rfl h)
  · refine ChannelsWf.congr (s := s.modChan p fun c => c.armed g) rfl rfl rfl rfl ?_
    exact hs.modChan_unmarked p (by simp [hidle]) (by simp [hidle]) (by simp [Channel.armed])
      ((hs.1 p).armed hidle g)
  · exact hs.modChan_unmarked p (by simp [hidle]) (by simp [hidle]) (by simp)
      ((hs.1 p).outside (.inl hidle) (.inr (.inl rfl)))
  · exact hs.modChan_unmarked p (by simp [hfaulted]) (by simp [hfaulted]) (by simp)
      ((hs.1 p).outside (.inr (.inl hfaulted)) (.inl rfl))

/-- The lenient entry into WRITING, in one change of the channel (R81, R82). -/
theorem lenientWrite_eq (x : Side) (s : State) :
    lenientWrite x s = s.modChan x fun c => Channel.toWriting (s.episodeRec x).image.kickLength
      { c with leadTimer := .stopped, record := { c.record with lenient := true } } := by
  simp [lenientWrite, enterWriting, State.modChan, State.setChan, State.episodeRec, State.headRec]

/-- A write gate rise (R80–R82). -/
theorem ChannelsWf.writeRise {s : State} (h : ChannelsWf s) (x : Side) : ChannelsWf (writeRise x s) := by
  have hearly : ChannelsWf (earlyGate x s) :=
    (h.raise x .earlyGate false).modChan_same x rfl fun hwf => hwf.flags true _ _ _
  have hwrite : (s.chan.get x).state = .ready ∨ (s.chan.get x).state = .holding → ChannelsWf (enterWriting x s) := by
    intro hst
    refine h.modChan_unmarked x ?_ ?_ (by simp [Channel.toWriting]) ((h.1 x).toWriting hst _)
    all_goals rcases hst with hst | hst <;> simp [hst]
  unfold Machine.writeRise
  split
  · exact hearly
  · rename_i hst
    split
    · have hst' : ((earlyGate x s).chan.get x).state = .preheat := by simpa [earlyGate] using hst
      rw [lenientWrite_eq]
      exact hearly.modChan_unmarked x (by simp [hst']) (by simp [hst']) (by simp [Channel.toWriting])
        ((hearly.1 x).lenientWriting hst' _)
    · exact hearly
  · rename_i hst
    exact hwrite (.inl hst)
  · rename_i hst
    exact hwrite (.inr hst)
  all_goals exact h

/-- A write interval that ends, to HOLDING or by the freeze that waited for it (R84, R85, R151). -/
theorem ChannelsWf.endInterval {s : State} (h : ChannelsWf s) (x : Side) (hst : (s.chan.get x).state = .writing) :
    ChannelsWf (if s.freeze.wait.get x then Machine.leaveFrozen x s else enterHolding x s) := by
  have hx := (channelsWf_iff s).mp h x
  split
  · rename_i hwait
    exact h.leaveFrozen x (hx.2.1 hwait).2
  · rename_i hwait
    exact h.modChan x (settled_of_unmarked (hx.1.toHolding hst _) (by simpa using hwait)
      (hx.frozenEpisode_eq_false (by simp [hst])) (by simp [Channel.toHolding]))

theorem ChannelsWf.writeFall {s : State} (h : ChannelsWf s) (x : Side) : ChannelsWf (writeFall x s) := by
  unfold Machine.writeFall
  split
  · rename_i hst
    exact h.endInterval x hst
  · exact h

theorem ChannelsWf.servoRise {s : State} (h : ChannelsWf s) (x : Side) : ChannelsWf (servoRise x s) := by
  unfold Machine.servoRise
  split
  · rename_i hst
    have hflag : ChannelsWf ((raiseEvent x .servoOverlap false s).modChan x fun c =>
        { c with record := { c.record with overlap := true } }) :=
      (h.raise x .servoOverlap false).modChan_same x rfl fun hwf => hwf.flags _ _ _ true
    have hend := hflag.endInterval x (by simpa using hst)
    unfold servoOverlap
    simpa using hend
  · exact h.modChan_same x (EpisodeActs.swapped_state _).1 Channel.wf.swapped
  all_goals exact h

/-- What a freeze does to one channel (R150). -/
theorem ChannelsWf.freezeChannel {s : State} (h : ChannelsWf s) (x : Side) (hactive : s.freeze.active = true) :
    ChannelsWf (freezeChannel x s) := by
  have hx := (channelsWf_iff s).mp h x
  have hfrozen : (s.chan.get x).state = .idle ∨ (s.chan.get x).state = .faulted ∨ (s.chan.get x).state = .frozen →
      ChannelsWf (s.modChan x fun c => { c with state := .frozen }) := fun hst =>
    h.modChan x (settled_of_frozen (hx.1.outside hst (.inr (.inr rfl)))
      (hx.wait_eq_false (by rcases hst with hst | hst | hst <;> simp [hst])) rfl hactive)
  unfold Machine.freezeChannel
  split
  · rename_i hst
    split
    · exact ChannelsWf.update (s := s) x ⟨hx.1, fun _ => ⟨hst, hactive⟩, hx.2.2⟩ rfl rfl (by simp) rfl h
    · exact h.leaveFrozen x hactive
  case h_6 => rename_i hst; exact hfrozen (.inl hst)
  case h_7 => rename_i hst; exact hfrozen (.inr (.inl hst))
  case h_8 => exact h
  all_goals exact h.leaveFrozen x hactive

theorem ChannelsWf.freezeRise {s : State} (h : ChannelsWf s) : ChannelsWf (freezeRise s) := by
  have hactive : ChannelsWf { s with freeze := { s.freeze with active := true } } := by
    rw [channelsWf_iff] at h ⊢
    intro x
    obtain ⟨hwf, hwait, hflag, -⟩ := h x
    exact ⟨hwf, fun hw => ⟨(hwait hw).1, rfl⟩, hflag, fun _ => rfl⟩
  unfold Machine.freezeRise
  split
  · exact h
  · exact (hactive.freezeChannel .a rfl).freezeChannel .b (by simp)

/-- A channel that a freeze release leaves: not FROZEN, and marked by neither flag (R151, R153). -/
def Thawed (s : State) (x : Side) : Prop :=
  (s.chan.get x).wf ∧ (s.chan.get x).state ≠ .frozen ∧ s.freeze.wait.get x = false ∧
    s.freeze.frozenEpisode.get x = false

theorem Thawed.congr {s t : State} {x : Side} (hchan : t.chan.get x = s.chan.get x)
    (hwait : t.freeze.wait.get x = s.freeze.wait.get x)
    (hflag : t.freeze.frozenEpisode.get x = s.freeze.frozenEpisode.get x) (h : Thawed s x) : Thawed t x := by
  unfold Thawed
  rw [hchan, hwait, hflag]
  exact h

theorem thawed_thawChannel {s : State} {f : Freeze} {x : Side} (h : Settled f x (s.chan.get x))
    (hwait : s.freeze.wait.get x = f.wait.get x) (hflag : s.freeze.frozenEpisode.get x = f.frozenEpisode.get x) :
    Thawed (thawChannel x s) x := by
  unfold Thawed
  rw [thawChannel_chan_eq, thawChannel_freeze_eq, PerSide.get_set_same]
  by_cases hst : (s.chan.get x).state = .frozen
  · have hwait' := h.wait_eq_false (by simp [hst])
    simp only [if_pos hst]
    refine ⟨h.1.outside (.inr (.inr hst)) ?_, ?_, ?_, ?_⟩
    · split <;> simp
    · split <;> simp
    · split <;> simpa [hwait] using hwait'
    · split
      · simp
      · simpa using ‹¬s.freeze.frozenEpisode.get x = true›
  · simp only [if_neg hst]
    exact ⟨h.1, hst, by simp, by rw [hflag]; exact h.frozenEpisode_eq_false hst⟩

theorem thawChannel_other (x : Side) (s : State) :
    (thawChannel x s).chan.get x.other = s.chan.get x.other ∧
      (thawChannel x s).freeze.wait.get x.other = s.freeze.wait.get x.other ∧
      (thawChannel x s).freeze.frozenEpisode.get x.other = s.freeze.frozenEpisode.get x.other := by
  rw [thawChannel_chan_eq, thawChannel_freeze_eq]
  refine ⟨by simp, ?_, ?_⟩ <;> (repeat' split) <;> simp

/-- A freeze release thaws channel A and then channel B. -/
theorem thawed_both {s : State} {f : Freeze} (h : ∀ x, Settled f x (s.chan.get x)) (hwait : s.freeze.wait = f.wait)
    (hflag : s.freeze.frozenEpisode = f.frozenEpisode) (x : Side) :
    Thawed (thawChannel .b (thawChannel .a s)) x := by
  cases x with
  | a =>
    obtain ⟨hchan, hwait', hflag'⟩ := thawChannel_other .b (thawChannel .a s)
    exact Thawed.congr hchan hwait' hflag' (thawed_thawChannel (h .a) (by rw [hwait]) (by rw [hflag]))
  | b =>
    obtain ⟨hchan, hwait', hflag'⟩ := thawChannel_other .a s
    have hb : Settled f .b ((thawChannel .a s).chan.get .b) := by
      rw [show Side.b = Side.a.other from rfl, hchan]
      exact h .b
    exact thawed_thawChannel hb (hwait'.trans (by rw [hwait]; rfl)) (hflag'.trans (by rw [hflag]; rfl))

theorem ChannelsWf.freezeFall {s : State} (h : ChannelsWf s) : ChannelsWf (freezeFall s) := by
  unfold Machine.freezeFall
  split
  · rw [channelsWf_iff] at h ⊢
    intro x
    obtain ⟨hwf, hstate, hwait, hflag⟩ :=
      thawed_both (s := { s with freeze := { s.freeze with active := false } }) h rfl rfl x
    exact settled_of_unmarked hwf hwait hflag hstate
  · exact h

/-! ## Every command -/

/-- A delivered result changes the state only from PENDING, to PREHEAT (R77, R78). -/
theorem receive_state (r : Computation) (n : Nat) (c : Channel) :
    (c.receive r n).state = c.state ∨ (c.state = .pending ∧ (c.receive r n).state = .preheat) := by
  unfold Channel.receive
  split
  · split
    · split
      · rename_i hst
        exact .inr ⟨hst, rfl⟩
      · exact .inl rfl
    · split <;> exact .inl rfl
  · exact .inl rfl

/-- The acts that the commands are made of keep the channels and the freeze flags well formed. -/
theorem channelsWf_acts : KeptByActs ChannelsWf where
  link l s := .congr rfl rfl rfl rfl
  sample v s := .congr rfl rfl rfl rfl
  writeGateLow x s := .congr rfl rfl rfl rfl
  servoGate x l s := .congr rfl rfl rfl rfl
  frzGate l s := .congr rfl rfl rfl rfl
  kinds p k s := .congr rfl rfl rfl rfl
  report r s := .congr (by simp) (by simp) (by simp) (by simp)
  capture x g n v s := .congr (by simp) (by simp) (by simp) (by simp)
  offer p i g a w s _ := .congr (by simp) (by simp) (by simp) (by simp)
  control p win w s _ h := h.controlWord p win w
  writeFall x s _ h := h.writeFall x
  servoRise x s _ h := h.servoRise x
  freezeRise s _ h := h.freezeRise
  freezeFall s _ h := h.freezeFall
  arbiterStart s := by
    obtain ⟨e, he⟩ := arbiterStart_changes_engine s
    rw [he]
    exact .congr rfl rfl rfl rfl
  computationEnd s h := by
    unfold computationEnd
    split
    · exact h
    · rename_i r _
      have hfree : ChannelsWf { s with engine := { s.engine with unit := none } } :=
        ChannelsWf.congr (s := s) rfl rfl rfl rfl h
      rcases receive_state r s.dwellLimit (s.chan.get r.side) with hsame | ⟨hst, hpreheat⟩
      · exact hfree.modChan_same r.side hsame fun hwf => hwf.receive r _
      · exact hfree.modChan_unmarked r.side (by simp [hst]) (by simp [hst]) (by simp [hpreheat])
          ((h.1 r.side).receive r _)
  leadExpiry x s h := by
    unfold leadExpiry
    split
    · rename_i hc
      have hst : (s.chan.get x).state = .preheat := by simp at hc; exact hc.1
      exact h.modChan_unmarked x (by simp [hst]) (by simp [hst]) (by simp [Channel.toReady]) ((h.1 x).toReady hst _)
    · exact h
  kickExpiry x s h := by
    unfold kickExpiry
    split
    · exact h.modChan_same x rfl Channel.wf.kickExpired
    · exact h
  dwellExpiry x s h := by
    unfold dwellExpiry
    split
    · rename_i hc
      have hx := (channelsWf_iff s).mp h x
      have hdwells : (s.chan.get x).state.dwells = true := by simp at hc; exact hc.1
      refine h.update x ?_ (by simp [leaveEpisode_chan_eq]) (by simp) (by simp) (by simp)
      rw [leaveEpisode_chan_eq, PerSide.get_set_same]
      simp only [raiseEvent_chan, State.modChan_chan, PerSide.get_set_same, leaveEpisode_freeze, raiseEvent_freeze,
        State.modChan_freeze]
      refine settled_of_unmarked (hx.1.left (.inr (.inl rfl))) (hx.wait_eq_false ?_) (hx.frozenEpisode_eq_false ?_) ?_
      · intro hst; simp [hst, ChanState.dwells] at hdwells
      · intro hst; simp [hst, ChanState.dwells] at hdwells
      · simp [Channel.left]
    · exact h
  loadWord w s := by
    unfold loadWord
    split
    · exact .congr rfl rfl rfl rfl
    · exact id
  loadPortArmed s := .congr rfl rfl rfl rfl
  rstNRelease s := .congr rfl rfl rfl rfl

/-- A slot start counts timers and durations (R79, R83, R95, R147). -/
theorem ChannelsWf.slotStart {s : State} (h : ChannelsWf s) (part : SlotPart) : ChannelsWf (slotStart part s) := by
  have hboth : ∀ f : Channel → Channel, (∀ c : Channel, c.wf → (f c).wf) → (∀ c, (f c).state = c.state) →
      ∀ s : State, ChannelsWf s → ChannelsWf { s with chan := ⟨f s.chan.a, f s.chan.b⟩ } := fun f hwf hstate s hs =>
    (hs.modChan_same .a (hstate _) (hwf _)).modChan_same .b (hstate _) (hwf _)
  have hlevel : ∀ (x : Side) (s : State), ChannelsWf s → ChannelsWf (sendLevel x s) := by
    intro x s hs
    unfold sendLevel
    refine ChannelsWf.congr (s := State.modChan x _ _) rfl rfl rfl rfl
      (ChannelsWf.modChan_same (ChannelsWf.congr (s := ite _ _ _) rfl rfl rfl rfl ?_) x rfl fun hwf => hwf.emitted _ _)
    split
    · unfold markReduced
      dsimp only
      split
      · exact hs.modChan_same x rfl fun hwf => hwf.flags _ _ true _
      · exact (hs.raise x .budgetShort false).modChan_same x rfl fun hwf => hwf.flags _ _ true _
    · exact hs
  refine slotStart_keeps ?_ ?_ ?_ ?_ ?_ ?_ part s h
  · exact fun k m s => .congr rfl rfl rfl rfl
  · exact fun s => .congr rfl rfl rfl rfl
  · exact hboth _ (fun c hc => hc.countSlot) fun _ => rfl
  · exact fun s hs => ChannelsWf.congr rfl rfl rfl rfl (hboth _ (fun c hc => hc.countFrame) (fun _ => rfl) s hs)
  · exact fun s => .congr rfl rfl rfl rfl
  · intro k s hs
    refine sendSlot_keeps (P := ChannelsWf) (.congr rfl rfl rfl rfl hs) (fun _ => .congr rfl rfl rfl rfl hs)
      (fun x _ => hlevel x s hs) ?_ (.congr rfl rfl rfl rfl hs) k
    unfold sendReport
    split
    · exact ChannelsWf.congr (s := s) rfl rfl rfl rfl hs
    · split <;> exact ChannelsWf.congr (s := s) rfl rfl rfl rfl hs

/-- The start of a reload takes every channel to IDLE and clears the freeze (R97, R149). -/
theorem channelsWf_quitConfigured {s : State} (h : ChannelsWf s) : ChannelsWf (quitConfigured s) := by
  rw [channelsWf_iff]
  intro x
  refine settled_of_unmarked ?_ (by cases x <;> rfl) (by cases x <;> rfl) (by rw [quitConfigured_state]; decide)
  rw [quitConfigured_chan]
  split
  · exact (h.1 x).left (.inl rfl)
  · rename_i hin
    refine (h.1 x).outside ?_ (.inl rfl)
    revert hin
    rw [State.inEpisode]
    cases (s.chan.get x).state <;> simp [ChanState.inEpisode]

/-- So every command keeps the channels well formed. -/
theorem channelsWf_effect (c : Instr) (s : State) (h : ChannelsWf s) : ChannelsWf (effect c s) := by
  refine channelsWf_acts.effect h fun halone => ?_
  cases c with
  | writeGateRise x =>
    exact unlessReset_keeps h (takeEdge_keeps h (.congr rfl rfl rfl rfl h) fun _ hs => hs.writeRise x)
  | thermalExpiry =>
    exact unlessReset_keeps h (thermalExpiry_keeps (fun _ _ s => .congr rfl rfl rfl rfl)
      (fun x s _ => .congr (by simp) (by simp) (by simp) (by simp)) s h)
  | slotStart part => exact unlessReset_keeps h (h.slotStart part)
  | loadNFall =>
    refine unlessReset_keeps h ?_
    unfold loadNFall
    dsimp only
    split
    · split
      · exact ChannelsWf.congr (s := quitConfigured s) rfl rfl rfl rfl (channelsWf_quitConfigured h)
      · exact ChannelsWf.congr (s := s) rfl rfl rfl rfl h
    · exact h
  | loadNRise =>
    have himage : ChannelsWf (applyImage s.loader.buffer s) := .congr rfl rfl rfl rfl h
    refine unlessReset_keeps h ?_
    unfold loadNRise loadSucceeds loadFails
    dsimp only
    split
    · split
      · split
        · exact himage.freezeRise
        · exact himage
      · exact .congr (by simp) (by simp) (by simp) (by simp) h
    · exact ChannelsWf.congr (s := s) rfl rfl rfl rfl h
  | rstNAssert =>
    refine (channelsWf_iff _).mpr fun x => settled_of_unmarked ?_ (by cases x <;> rfl) (by cases x <;> rfl) ?_
    all_goals
      have hreset : (effect .rstNAssert s).chan.get x = .reset := by cases x <;> rfl
      rw [hreset]
      simp [Channel.wf, Channel.reset, EpisodeRecord.cleared]
  | _ => exact absurd halone Bool.false_ne_true

/-- Settles O41. -/
theorem channelsStayWellFormed : Obligations.ChannelsStayWellFormed :=
  keptByStep_of_effect (fun _ _ => .congr rfl rfl rfl rfl) channelsWf_effect

end Sys2Proof.Machine
end

section
/-!
PROOFS. When a channel enters WRITING (R66): of all acts of the commands only the rise of the channel's own write gate
gives WRITING or a HIGH write gate.
-/

namespace Sys2Proof.Machine

/-- In `t` channel `x` is in WRITING only if it was in `s`, and its write gate HIGH only if it was in `s`. -/
structure NoRise (s : State) (x : Side) (t : State) : Prop where
  writing : (t.chan.get x).state = .writing → (s.chan.get x).state = .writing
  level : (t.gates.wg.get x).level = true → (s.gates.wg.get x).level = true

namespace NoRise

variable {s t u : State} {x : Side}

/-- An act that leaves the gates, and gives channel `x` WRITING only where it stood. -/
theorem of_acts (h : NoRise s x t) (hgates : u.gates.wg = t.gates.wg)
    (hstate : (u.chan.get x).state = .writing → (t.chan.get x).state = .writing) : NoRise s x u :=
  ⟨fun hu => h.writing (hstate hu), fun hu => h.level (hgates ▸ hu)⟩

theorem same_chan (h : NoRise s x t) (hgates : u.gates.wg = t.gates.wg) (hchan : u.chan = t.chan) : NoRise s x u :=
  h.of_acts hgates (by rw [hchan]; exact id)

/-- An act on the channel of some side. -/
theorem modChan (h : NoRise s x t) (y : Side) {f : Channel → Channel}
    (hf : (f (t.chan.get y)).state = .writing → (t.chan.get y).state = .writing) : NoRise s x (t.modChan y f) := by
  refine h.of_acts rfl ?_
  rw [State.modChan_chan, PerSide.get_set]
  split
  · rename_i hxy
    exact hxy ▸ hf
  · exact id

theorem raise (h : NoRise s x t) (p : Side) (k : EventKind) (i : Bool) : NoRise s x (raiseEvent p k i t) :=
  h.same_chan (by simp) (by simp)

/-- Channels that change by leaving the episode states. -/
theorem of_left (h : NoRise s x t) {y : Side} {d : ChanState} (hgates : u.gates.wg = t.gates.wg)
    (hchan : u.chan = t.chan.set y ((t.chan.get y).left d)) (hd : d ≠ .writing) : NoRise s x u := by
  refine h.of_acts hgates ?_
  rw [hchan, PerSide.get_set]
  split
  · exact fun hw => absurd hw hd
  · exact id

theorem leaveFrozen (h : NoRise s x t) (y : Side) : NoRise s x (leaveFrozen y t) :=
  h.of_left (y := y) (d := .frozen) (by simp) (by simp [Machine.leaveFrozen, leaveEpisode_chan_eq]) (by decide)

theorem controlWord (h : NoRise s x t) (p : Side) (win : Window) (w : Word) :
    NoRise s x (controlWord p win w t) := by
  refine deliverEffect_keeps (P := NoRise s x) (fun k u hu => hu.raise p k false) (fun o u _ hu => ?_)
    (fun g u _ hu => ?_) (fun u _ hu => hu.modChan p (by simp)) (fun u _ hu => hu.modChan p (by simp)) _
    (h.same_chan rfl rfl)
  · exact hu.of_left (by simp) (leaveByControl_chan_eq p o u) (by split <;> decide)
  · exact NoRise.same_chan (t := u.modChan p fun c => c.armed g) (hu.modChan p (by simp [Channel.armed])) rfl rfl

/-- A write gate rise of the other side. -/
theorem writeRise_other (h : NoRise s x t) : NoRise s x (writeRise x.other t) := by
  have hmod : ∀ (u : State) (f : Channel → Channel), NoRise s x u → NoRise s x (u.modChan x.other f) :=
    fun u f hu => hu.of_acts rfl (by simp)
  have hearly := hmod _ (fun c => { c with record := { c.record with early := true } })
    (h.raise x.other .earlyGate false)
  unfold writeRise
  split
  · exact hearly
  · split
    · rw [lenientWrite_eq]
      exact hmod _ _ hearly
    · exact hearly
  · exact hmod _ _ h
  · exact hmod _ _ h
  all_goals exact h

theorem endInterval (h : NoRise s x t) (y : Side) (b : Bool) :
    NoRise s x (if b then Machine.leaveFrozen y t else enterHolding y t) := by
  split
  · exact h.leaveFrozen y
  · exact h.modChan y (by simp [Channel.toHolding])

theorem servoRise (h : NoRise s x t) (y : Side) : NoRise s x (servoRise y t) := by
  unfold Machine.servoRise
  split
  · unfold servoOverlap
    exact ((h.raise y .servoOverlap false).modChan y id).endInterval y _
  · exact h.modChan y (by rw [(EpisodeActs.swapped_state _).1]; exact id)
  all_goals exact h

theorem freezeChannel (h : NoRise s x t) (y : Side) : NoRise s x (freezeChannel y t) := by
  unfold Machine.freezeChannel
  split
  · split
    · exact h.same_chan rfl rfl
    · exact h.leaveFrozen y
  case h_6 | h_7 => exact h.modChan y (by simp)
  case h_8 => exact h
  all_goals exact h.leaveFrozen y

theorem freezeRise (h : NoRise s x t) : NoRise s x (freezeRise t) := by
  unfold Machine.freezeRise
  split
  · exact h
  · exact freezeChannel (freezeChannel (t := { t with freeze := { t.freeze with active := true } })
      (h.same_chan rfl rfl) .a) .b

theorem thawChannel (h : NoRise s x t) (y : Side) : NoRise s x (thawChannel y t) := by
  refine h.of_acts (by simp) ?_
  rw [thawChannel_chan_eq, PerSide.get_set]
  split
  · rename_i hxy
    subst hxy
    split
    · dsimp only
      split <;> simp
    · exact id
  · exact id

theorem freezeFall (h : NoRise s x t) : NoRise s x (freezeFall t) := by
  unfold Machine.freezeFall
  split
  · exact thawChannel (thawChannel (t := { t with freeze := { t.freeze with active := false } })
      (h.same_chan rfl rfl) .a) .b
  · exact h

/-- No act but a write gate rise gives WRITING or a HIGH write gate. -/
theorem acts (s : State) (x : Side) : KeptByActs (NoRise s x) where
  link l t h := h.same_chan rfl rfl
  sample v t h := by
    have hlevel : ∀ (q : Nat) (b : Bool) (g : Qualifier), (g.sample q b).level = g.level := by
      intro q b g
      unfold Qualifier.sample
      split
      · rfl
      · split <;> rfl
    refine ⟨h.writing, fun hu => h.level ?_⟩
    cases x
    · exact (hlevel _ _ _).symm.trans hu
    · exact (hlevel _ _ _).symm.trans hu
  writeGateLow y t h := by
    refine ⟨h.writing, fun hu => h.level ?_⟩
    rw [State.setWriteGate_gates, PerSide.get_set] at hu
    split at hu
    · exact absurd hu (by simp [Qualifier.edge])
    · exact hu
  servoGate y l t h := ⟨h.writing, h.level⟩
  frzGate l t h := ⟨h.writing, h.level⟩
  kinds p k t h := h.same_chan rfl rfl
  report r t h := h.same_chan (by simp) (by simp)
  capture y g n v t h := h.same_chan (by simp) (by simp)
  offer p i g a w t _ h := h.same_chan (by simp) (by simp)
  control p win w t _ h := h.controlWord p win w
  writeFall y t _ h := by
    unfold writeFall
    split
    · exact h.endInterval y _
    · exact h
  servoRise y t _ h := h.servoRise y
  freezeRise t _ h := h.freezeRise
  freezeFall t _ h := h.freezeFall
  arbiterStart t h := by
    obtain ⟨e, he⟩ := arbiterStart_changes_engine t
    rw [he]
    exact h.same_chan rfl rfl
  computationEnd t h := by
    unfold computationEnd
    split
    · exact h
    · rename_i r _
      refine NoRise.modChan (t := { t with engine := { t.engine with unit := none } }) (h.same_chan rfl rfl) r.side ?_
      rcases receive_state r t.dwellLimit (t.chan.get r.side) with hsame | ⟨-, hpreheat⟩
      · exact fun hw => hsame.symm.trans hw
      · exact fun hw => absurd (hpreheat.symm.trans hw) (by decide)
  leadExpiry y t h := by
    unfold leadExpiry
    split
    · exact h.modChan y (by simp [Channel.toReady])
    · exact h
  kickExpiry y t h := by
    unfold kickExpiry
    split
    · exact h.modChan y id
    · exact h
  dwellExpiry y t h := by
    unfold dwellExpiry
    split
    · exact NoRise.of_left ((h.modChan y (f := fun c => { c with dwell := none }) id).raise y .dwellLimit false)
        (by simp) (leaveEpisode_chan_eq _ _ _ _) (by decide)
    · exact h
  loadWord w t h := by
    unfold loadWord
    split
    · exact h.same_chan rfl rfl
    · exact h
  loadPortArmed t h := h.same_chan rfl rfl
  rstNRelease t h := h.same_chan rfl rfl

theorem slotStart (h : NoRise s x t) (part : SlotPart) : NoRise s x (slotStart part t) := by
  have hboth : ∀ f : Channel → Channel, (∀ c, (f c).state = c.state) → ∀ u : State, NoRise s x u →
      NoRise s x { u with chan := ⟨f u.chan.a, f u.chan.b⟩ } := fun f hf u hu =>
    (hu.modChan .a (f := f) (by rw [hf]; exact id)).modChan .b (f := f) (by rw [hf]; exact id)
  have hlevel : ∀ (y : Side) (u : State), NoRise s x u → NoRise s x (sendLevel y u) := by
    intro y u hu
    refine hu.of_acts ?_ ?_
    · unfold sendLevel markReduced
      simp only [putWord, State.modChan_gates]
      split
      · split <;> simp
      · rfl
    · rw [(sendLevel_steady y u x).1]
      exact id
  refine slotStart_keeps ?_ ?_ ?_ ?_ ?_ ?_ part t h
  · exact fun k m u hu => hu.same_chan rfl rfl
  · exact fun u hu => hu.same_chan rfl rfl
  · exact hboth _ fun _ => rfl
  · exact fun u hu => NoRise.same_chan (hboth Channel.countFrame (fun _ => rfl) u hu) rfl rfl
  · exact fun u hu => hu.same_chan rfl rfl
  · intro k u hu
    refine sendSlot_keeps (P := NoRise s x) (hu.same_chan rfl rfl) (fun _ => hu.same_chan rfl rfl)
      (fun y _ => hlevel y u hu) ?_ (hu.same_chan rfl rfl) k
    unfold sendReport
    split
    · exact hu.same_chan rfl rfl
    · split <;> exact hu.same_chan rfl rfl

end NoRise

/-- An edge is taken when its run is due (R61). -/
theorem takes_iff (q : Nat) (level : Bool) (g : Qualifier) : g.takes q level = true ↔ EdgeDue q g level := by
  simp [Qualifier.takes, Qualifier.due, EdgeDue]

/-- A command whose edge is not due does nothing (R61, R63). -/
theorem takeEdge_of_not_due {q : Nat} {b : Bool} {g : Qualifier} {level deliver : State → State} {s : State}
    (h : ¬EdgeDue q g b) : takeEdge (g.takes q b) level deliver s = s :=
  if_neg (by rwa [takes_iff])

theorem quitConfigured_gates (s : State) : (quitConfigured s).gates = s.gates := by
  have hreload : ∀ (x : Side) (u : State), (reloadChannel x u).gates = u.gates := by
    intro x u
    unfold reloadChannel
    split <;> simp
  exact (hreload .b _).trans (hreload .a s)

/-- No command but the qualified rise of the channel's own write gate is a rise for the channel. -/
theorem noRise_effect (c : Instr) (s : State) (x : Side)
    (hc : c ≠ .writeGateRise x ∨ ¬EdgeDue s.gates.q (s.gates.wg.get x) true) : NoRise s x (effect c s) := by
  have hs : NoRise s x s := ⟨id, id⟩
  refine (NoRise.acts s x).effect hs fun halone => ?_
  cases c with
  | writeGateRise y =>
    refine unlessReset_keeps hs ?_
    rcases Side.eq_or_other x y with rfl | rfl
    · unfold writeGateRise
      rw [takeEdge_of_not_due (hc.resolve_left (by simp))]
      exact hs
    · refine takeEdge_keeps hs ⟨id, fun hu => ?_⟩ fun _ hu => hu.writeRise_other
      simpa using hu
  | thermalExpiry =>
    exact unlessReset_keeps hs (thermalExpiry_keeps (fun _ _ t ht => ht.same_chan rfl rfl)
      (fun y t _ ht => ht.same_chan (by simp) (by simp)) s hs)
  | slotStart part => exact unlessReset_keeps hs (hs.slotStart part)
  | loadNFall =>
    refine unlessReset_keeps hs ?_
    unfold loadNFall
    dsimp only
    split
    · split
      · refine ⟨fun hw => ?_, fun hu => ?_⟩
        · exact absurd ((quitConfigured_state s x).symm.trans hw) (by decide)
        · exact (congrArg (fun g : Gates => (g.wg.get x).level) (quitConfigured_gates s)).symm.trans hu
      · exact hs.same_chan rfl rfl
    · exact hs
  | loadNRise =>
    have himage : NoRise s x (applyImage s.loader.buffer s) := hs.same_chan rfl rfl
    refine unlessReset_keeps hs ?_
    unfold loadNRise loadSucceeds loadFails
    dsimp only
    split
    · split
      · split
        · exact himage.freezeRise
        · exact himage
      · exact hs.same_chan (by simp) (by simp)
    · exact hs.same_chan rfl rfl
  | rstNAssert =>
    refine ⟨fun hw => ?_, fun hu => ?_⟩
    · have hidle : ((effect .rstNAssert s).chan.get x).state = .idle := by cases x <;> rfl
      exact absurd (hidle.symm.trans hw) (by decide)
    · have hlow : ((effect .rstNAssert s).gates.wg.get x).level = false := by cases x <;> rfl
      exact absurd (hlow.symm.trans hu) (by decide)
  | _ => exact absurd halone Bool.false_ne_true

/-- Settles O40. -/
theorem writingEnteredOnlyAtOwnRise : Obligations.WritingEnteredOnlyAtOwnRise := by
  intro c s t x hexec hc
  rw [effect_eq_of_exec hexec]
  have h := noRise_effect c s x hc
  refine ⟨h.writing, fun hout => ?_⟩
  simp only [State.gateOut, Bool.and_eq_true, decide_eq_true_eq] at hout ⊢
  exact ⟨h.level hout.1, h.writing hout.2⟩

end Sys2Proof.Machine
end

section
/-!
PROOFS. The commands as the records and the links see them: which acts queue a record and which end an episode. The
claims of the report queue, the head table and the link forwarder follow from what these acts do.
-/

namespace Sys2Proof.Machine

/-- `P` reads nothing but the reports, the head table, the held writes and the link, and is kept as a record is queued
and as an episode is left. -/
structure SharedActs (P : State → Prop) : Prop where
  frame : ∀ s t, t.reports = s.reports → t.heads = s.heads → t.held = s.held → t.link = s.link → P s → P t
  queue : ∀ r s, P s → P (queueReport r s)
  leave : ∀ x d o s, P s → P (leaveEpisode x d o s)

namespace SharedActs

variable {P : State → Prop} {s : State}

theorem same (h : SharedActs P) {t : State} (hs : P s) (hreports : t.reports = s.reports) (hheads : t.heads = s.heads)
    (hheld : t.held = s.held) (hlink : t.link = s.link) : P t :=
  h.frame s t hreports hheads hheld hlink hs

theorem raise (h : SharedActs P) (p : Side) (k : EventKind) (i : Bool) (hs : P s) : P (raiseEvent p k i s) :=
  h.queue _ _ (h.frame s _ rfl rfl rfl rfl hs)

theorem leaveFrozen (h : SharedActs P) (x : Side) (hs : P s) : P (leaveFrozen x s) :=
  h.same (h.leave x .frozen .frozen _ hs) rfl rfl rfl rfl

theorem controlWord (h : SharedActs P) (p : Side) (win : Window) (w : Word) (hs : P s) : P (controlWord p win w s) := by
  refine deliverEffect_keeps (fun k u hu => h.raise p k false hu) (fun o u _ hu => ?_)
    (fun g u _ hu => h.frame u _ rfl rfl rfl rfl hu) (fun u _ hu => h.frame u _ rfl rfl rfl rfl hu)
    (fun u _ hu => h.frame u _ rfl rfl rfl rfl hu) _ (h.frame s _ rfl rfl rfl rfl hs)
  unfold leaveByControl
  dsimp only
  split
  · exact h.same (h.leave p .idle o _ hu) rfl rfl rfl rfl
  · exact h.leave p .idle o _ hu

theorem writeRise (h : SharedActs P) (x : Side) (hs : P s) : P (writeRise x s) := by
  have hearly : P (earlyGate x s) := h.same (h.raise x .earlyGate false hs) rfl rfl rfl rfl
  unfold Machine.writeRise
  split
  · exact hearly
  · split
    · exact h.same hearly rfl rfl rfl rfl
    · exact hearly
  · exact h.frame s _ rfl rfl rfl rfl hs
  · exact h.frame s _ rfl rfl rfl rfl hs
  all_goals exact hs

theorem endInterval (h : SharedActs P) (x : Side) (b : Bool) (hs : P s) :
    P (if b then Machine.leaveFrozen x s else enterHolding x s) := by
  split
  · exact h.leaveFrozen x hs
  · exact h.frame s _ rfl rfl rfl rfl hs

theorem servoRise (h : SharedActs P) (x : Side) (hs : P s) : P (servoRise x s) := by
  unfold Machine.servoRise
  split
  · exact h.endInterval x _ (h.same (h.raise x .servoOverlap false hs) rfl rfl rfl rfl)
  · exact h.frame s _ rfl rfl rfl rfl hs
  all_goals exact hs

theorem freezeRise (h : SharedActs P) (hs : P s) : P (freezeRise s) := by
  have hchannel : ∀ (x : Side) (u : State), P u → P (freezeChannel x u) := by
    intro x u hu
    unfold freezeChannel
    split
    · split
      · exact h.frame u _ rfl rfl rfl rfl hu
      · exact h.leaveFrozen x hu
    case h_6 | h_7 => exact h.frame u _ rfl rfl rfl rfl hu
    case h_8 => exact hu
    all_goals exact h.leaveFrozen x hu
  unfold Machine.freezeRise
  split
  · exact hs
  · exact hchannel .b _ (hchannel .a _ (h.frame s _ rfl rfl rfl rfl hs))

theorem freezeFall (h : SharedActs P) (hs : P s) : P (freezeFall s) := by
  have hchannel : ∀ (x : Side) (u : State), P u → P (thawChannel x u) := by
    intro x u hu
    unfold thawChannel releaseFrozen
    dsimp only
    split
    · split
      · exact h.raise x _ _ (h.frame u _ rfl rfl rfl rfl hu)
      · exact h.frame u _ rfl rfl rfl rfl hu
    · exact h.frame u _ rfl rfl rfl rfl hu
  unfold Machine.freezeFall
  split
  · exact hchannel .b _ (hchannel .a _ (h.frame s _ rfl rfl rfl rfl hs))
  · exact hs

theorem keptOffLink (h : SharedActs P) : KeptOffLink P where
  sample v s := h.frame s _ rfl rfl rfl rfl
  writeGateLow x s := h.frame s _ rfl rfl rfl rfl
  servoGate x l s := h.frame s _ rfl rfl rfl rfl
  frzGate l s := h.frame s _ rfl rfl rfl rfl
  writeFall x s _ hs := by
    unfold writeFall
    split
    · exact h.endInterval x _ hs
    · exact hs
  servoRise x s _ := h.servoRise x
  freezeRise s _ := h.freezeRise
  freezeFall s _ := h.freezeFall
  arbiterStart s := by
    obtain ⟨e, he⟩ := arbiterStart_changes_engine s
    rw [he]
    exact h.frame s _ rfl rfl rfl rfl
  computationEnd s := by
    unfold computationEnd
    split
    · exact id
    · exact h.frame s _ rfl rfl rfl rfl
  leadExpiry x s := by
    unfold leadExpiry
    split
    · exact h.frame s _ rfl rfl rfl rfl
    · exact id
  kickExpiry x s := by
    unfold kickExpiry
    split
    · exact h.frame s _ rfl rfl rfl rfl
    · exact id
  dwellExpiry x s hs := by
    unfold dwellExpiry
    split
    · exact h.leave x _ _ _ (h.raise x _ _ (h.frame s _ rfl rfl rfl rfl hs))
    · exact hs
  loadWord w s := by
    unfold loadWord
    split
    · exact h.frame s _ rfl rfl rfl rfl
    · exact id
  loadPortArmed s := h.frame s _ rfl rfl rfl rfl
  rstNRelease s := h.frame s _ rfl rfl rfl rfl

/-- A LEVEL word raises at most BUDGET_SHORT (R142). -/
theorem sendLevel (h : SharedActs P) (x : Side) (hs : P s) : P (sendLevel x s) := by
  refine h.frame (ite _ (markReduced x s) s) _ rfl rfl rfl rfl ?_
  split
  · unfold markReduced
    refine h.frame (ite _ s _) _ rfl rfl rfl rfl ?_
    split
    · exact hs
    · exact h.raise x .budgetShort false hs
  · exact hs

/-- A slot carries a LEVEL word, the next word of the reports, or a word that reads neither (R133–R135). -/
theorem sendSlot (h : SharedActs P) (hreport : ∀ s, P s → P (sendReport s)) (k : Fin 8) (hs : P s) :
    P (sendSlot k s) :=
  sendSlot_keeps (h.frame s _ rfl rfl rfl rfl hs) (fun _ => h.frame s _ rfl rfl rfl rfl hs)
    (fun x _ => h.sendLevel x hs)
    (hreport s hs) (h.frame s _ rfl rfl rfl rfl hs) k

/-- Every command but RST_N keeps `P`, when the next report word, the heats and the image are known to keep it. -/
theorem effect (h : SharedActs P) {c : Instr} (hreport : ∀ part, c = .slotStart part → ∀ s, P s → P (sendReport s))
    (hheat : c = .thermalExpiry → P s → P { s with heads := heatHeads s })
    (himage : c = .loadNRise → P s → P (applyImage s.loader.buffer s)) (hlink : onLink c = true → P (effect c s))
    (hc : c ≠ .rstNAssert) (hs : P s) : P (effect c s) := by
  refine h.keptOffLink.effect hs hlink fun halone => ?_
  cases c with
  | writeGateRise x =>
    exact unlessReset_keeps hs (takeEdge_keeps hs (h.frame s _ rfl rfl rfl rfl hs) fun _ hu => h.writeRise x hu)
  | thermalExpiry =>
    have hpost : ∀ (x : Side) (u : State), P u → P (postRecompute x u) := by
      intro x u hu
      unfold postRecompute
      split
      · obtain ⟨e, he⟩ := postRequest_changes_engine x .recompute u
        rw [he]
        exact h.frame u _ rfl rfl rfl rfl hu
      · exact hu
    refine unlessReset_keeps hs ?_
    unfold thermalExpiry
    split
    · exact hpost .b _ (hpost .a _ (h.same (hheat rfl hs) rfl rfl rfl rfl))
    · exact hs
  | slotStart part =>
    refine unlessReset_keeps hs (slotStart_keeps ?_ ?_ ?_ ?_ ?_ ?_ part s hs)
    · exact fun k m u => h.frame u _ rfl rfl rfl rfl
    · exact fun u => h.frame u _ rfl rfl rfl rfl
    · exact fun u => h.frame u _ rfl rfl rfl rfl
    · exact fun u => h.frame u _ rfl rfl rfl rfl
    · exact fun u => h.frame u _ rfl rfl rfl rfl
    · exact fun k u => h.sendSlot (hreport part rfl) k
  | loadNFall =>
    have hreload : ∀ (x : Side) (u : State), P u → P (reloadChannel x u) := by
      intro x u hu
      unfold reloadChannel
      split
      · exact h.leave x _ _ _ hu
      · exact h.frame u _ rfl rfl rfl rfl hu
    refine unlessReset_keeps hs ?_
    unfold loadNFall
    dsimp only
    split
    · split
      · exact h.same (hreload .b _ (hreload .a s hs)) rfl rfl rfl rfl
      · exact h.frame s _ rfl rfl rfl rfl hs
    · exact hs
  | loadNRise =>
    refine unlessReset_keeps hs ?_
    unfold loadNRise loadSucceeds loadFails
    dsimp only
    split
    · split
      · split
        · exact h.freezeRise (himage rfl hs)
        · exact himage rfl hs
      · exact h.raise .b _ _ (h.raise .a _ _ (h.frame s _ rfl rfl rfl rfl hs))
    · exact h.frame s _ rfl rfl rfl rfl hs
  | rstNAssert => exact absurd rfl hc
  | _ => exact absurd halone Bool.false_ne_true

end SharedActs

end Sys2Proof.Machine
end

section
/-!
PROOFS. The report queue (R163–R165) and the head table (R49–R60): the commands write them only by queueing a record, by
captures, and, for the table, by a thermal expiry and a load.
-/

namespace Sys2Proof.Machine

/-! ## The acts on the reports and the head table -/

/-- `P` reads nothing but the reports and the head table, and is kept as a record is queued and as a code is
captured. -/
structure RecordActs (P : State → Prop) : Prop where
  frame : ∀ s t, t.reports = s.reports → t.heads = s.heads → P s → P t
  queue : ∀ r s, P s → P (queueReport r s)
  capture : ∀ x h n v s, P s → P (captureCode x h n v s)

namespace RecordActs

variable {P : State → Prop} {s : State}

/-- Leaving queues the EPISODE record and captures the released entries (R92). -/
theorem leave (h : RecordActs P) (x : Side) (d : ChanState) (o : EpisodeOutcome) (hs : P s) :
    P (leaveEpisode x d o s) := by
  have hcaptures : ∀ (l : List HeldEntry) (u : State), P u → P (l.foldl captureEntry u) := by
    intro l
    induction l with
    | nil => exact fun u hu => hu
    | cons e l ih => exact fun u hu => ih _ (h.capture _ _ _ _ _ hu)
  have hrelease : ∀ u : State, P u → P (releaseHeld x u) := fun u hu =>
    h.frame (List.foldl captureEntry (u.setHeld (u.held.filter fun e => e.side ≠ x)) _) _ rfl rfl
      (hcaptures (u.held.filter fun e => e.side = x) _ (h.frame u _ rfl rfl hu))
  exact hrelease _ (h.queue _ _ (h.frame s _ rfl rfl hs))

theorem shared (h : RecordActs P) : SharedActs P where
  frame s t hreports hheads _ _ := h.frame s t hreports hheads
  queue := h.queue
  leave x d o _ := h.leave x d o

theorem offer (h : RecordActs P) (p : Side) (i : Fin 16) (g : Fin 12) (a : RegAddr) (w : Word) (hs : P s) :
    P (offerHeld p i g a w s).1 := by
  unfold offerHeld
  split
  · exact h.frame s _ rfl rfl hs
  · split
    · exact h.frame s _ rfl rfl hs
    · exact h.shared.raise p .holdOverflow false hs

theorem keptByActs (h : RecordActs P) : KeptByActs P where
  toKeptOffLink := h.shared.keptOffLink
  link _ s := h.frame s _ rfl rfl
  kinds _ _ s := h.frame s _ rfl rfl
  report := h.queue
  capture := h.capture
  offer p i g a w _ _ := h.offer p i g a w
  control p win w _ _ := h.shared.controlWord p win w

/-- Every command but RST_N keeps `P`, when the next report word, the heats and the image are known to keep it. -/
theorem effect (h : RecordActs P) {c : Instr} (hreport : ∀ part, c = .slotStart part → ∀ s, P s → P (sendReport s))
    (hheat : c = .thermalExpiry → P s → P { s with heads := heatHeads s })
    (himage : c = .loadNRise → P s → P (applyImage s.loader.buffer s)) (hc : c ≠ .rstNAssert) (hs : P s) :
    P (effect c s) :=
  h.shared.effect hreport hheat himage (h.keptByActs.link_effect hs) hc hs

end RecordActs

/-! ## The report queue (R163–R165) -/

/-- A claim of the reports alone: a capture changes them only by a raise. -/
theorem recordActs_of_reports {P : State → Prop} (hframe : ∀ s t, t.reports = s.reports → P s → P t)
    (hqueue : ∀ r s, P s → P (queueReport r s)) : RecordActs P where
  frame s t hreports _ := hframe s t hreports
  queue := hqueue
  capture x h n v s hs := by
    unfold captureCode
    dsimp only
    split
    · exact hframe s _ rfl hs
    · exact hqueue _ _ (hframe s _ rfl hs)

/-- Every record has at least two words (R174). -/
theorem words_length_pos (r : Report) : 0 < r.words.length := by
  cases r <;> exact Nat.succ_pos _

theorem reportsBounded_iff (s : State) : ReportsBounded s ↔ s.reports.records.length ≤ 16 ∧
    (s.reports.records = [] → s.reports.sent = 0) ∧
    ∀ r rest, s.reports.records = r :: rest → s.reports.sent < r.words.length := by
  unfold ReportsBounded
  cases s.reports.records <;> simp

/-- A record at the tail keeps the bound and leaves the head (R163). -/
theorem ReportsBounded.queueReport {s : State} (r : Report) (h : ReportsBounded s) :
    ReportsBounded (queueReport r s) := by
  rw [reportsBounded_iff] at h ⊢
  obtain ⟨hlen, hempty, hhead⟩ := h
  rw [queueReport_records, queueReport_reports_sent]
  split
  · rename_i hroom
    refine ⟨by simpa using hroom, by simp, fun q rest hq => ?_⟩
    cases hrecords : s.reports.records with
    | nil =>
      rw [hrecords] at hq
      obtain ⟨rfl, -⟩ := List.cons.inj hq
      rw [hempty hrecords]
      exact words_length_pos _
    | cons p ps =>
      rw [hrecords] at hq
      obtain ⟨rfl, -⟩ := List.cons.inj hq
      exact hhead _ _ hrecords
  · exact ⟨hlen, hempty, hhead⟩

/-- The next word of the head record is one that it has; with its last word the record leaves (R135). -/
theorem ReportsBounded.sendReport {s : State} (h : ReportsBounded s) : ReportsBounded (sendReport s) := by
  unfold Machine.sendReport
  split
  · exact h
  · rename_i r rest hrecords
    rw [reportsBounded_iff] at h ⊢
    simp only [putWord]
    split
    · rename_i hmore
      refine ⟨h.1, fun hnil => ?_, fun q rest' hq => ?_⟩
      · exact absurd (hrecords.symm.trans hnil) (by simp)
      · obtain ⟨rfl, -⟩ := List.cons.inj (hrecords.symm.trans hq)
        exact hmore
    · have hlen := h.1
      rw [hrecords] at hlen
      refine ⟨?_, fun _ => rfl, fun q _ _ => words_length_pos q⟩
      exact (Nat.le_succ _).trans hlen

theorem reportsBounded_recordActs : RecordActs ReportsBounded :=
  recordActs_of_reports (fun s t hreports h => by unfold ReportsBounded; rw [hreports]; exact h)
    fun r _ h => h.queueReport r

theorem reportsBounded_effect (c : Instr) (s : State) (h : ReportsBounded s) : ReportsBounded (effect c s) := by
  by_cases hc : c = .rstNAssert
  · subst hc
    exact ⟨Nat.zero_le _, rfl⟩
  · exact reportsBounded_recordActs.effect (fun _ _ _ hs => hs.sendReport) (fun _ hs => hs) (fun _ hs => hs) hc h

/-- `t` has the reports of `s` with more at the tail, and as much of the head record sent. -/
def ReportsAppended (s t : State) : Prop :=
  (∃ more, t.reports.records = s.reports.records ++ more) ∧ t.reports.sent = s.reports.sent

theorem reportsAppended_refl (s : State) : ReportsAppended s s := ⟨⟨[], by simp⟩, rfl⟩

theorem ReportsAppended.queueReport {s t : State} (r : Report) (h : ReportsAppended s t) :
    ReportsAppended s (queueReport r t) := by
  obtain ⟨⟨more, hmore⟩, hsent⟩ := h
  refine ⟨?_, by rw [queueReport_reports_sent, hsent]⟩
  rw [queueReport_records]
  split
  · exact ⟨more ++ [r], by rw [hmore, List.append_assoc]⟩
  · exact ⟨more, hmore⟩

theorem reportsAppended_recordActs (s : State) : RecordActs (ReportsAppended s) :=
  recordActs_of_reports (fun t u hreports h => by unfold ReportsAppended; rw [hreports]; exact h)
    fun r _ h => h.queueReport r

/-- The word of a slot takes at most the head record out of the queue (R135, R163). -/
theorem sendSlot_drops (k : Fin 8) (s : State) : ∃ n more,
    (sendSlot k s).reports.records = s.reports.records.drop n ++ more ∧ n ≤ 1 := by
  have hnone : ∀ {t : State}, ReportsAppended s t → ∃ n more, t.reports.records = s.reports.records.drop n ++ more ∧
      n ≤ 1 := fun ⟨⟨more, hmore⟩, _⟩ => ⟨0, more, by rw [hmore]; rfl, Nat.zero_le _⟩
  have hs := reportsAppended_refl s
  have acts := reportsAppended_recordActs s
  refine sendSlot_keeps (P := fun t => ∃ n more, t.reports.records = s.reports.records.drop n ++ more ∧ n ≤ 1)
    (hnone hs) (fun _ => hnone hs) (fun x _ => hnone ?_) ?_ (hnone hs) k
  · exact acts.shared.sendLevel x hs
  · unfold sendReport
    split
    · exact hnone hs
    · rename_i r rest hrecords
      simp only [putWord]
      split
      · exact ⟨0, [], by simp, Nat.zero_le _⟩
      · exact ⟨1, [], by simp [hrecords], Nat.le_refl _⟩

/-- What a slot start takes ahead of its word leaves the reports. -/
theorem slotStart_drops (part : SlotPart) (s : State) : ∃ n more,
    (slotStart part s).reports.records = s.reports.records.drop n ++ more ∧ n ≤ 1 := by
  by_cases hpart : part = .event
  · subst hpart
    refine ⟨0, [], ?_, Nat.zero_le _⟩
    have hevent : (slotStart .event s).reports = s.reports := by
      unfold slotStart takeOwed takeEvent
      dsimp only
      repeat' split
      all_goals rfl
    rw [hevent]
    simp
  · rw [slotStart_eq_sendSlot part s hpart]
    have hbefore : (s.beforeWord part).reports = s.reports := by
      obtain ⟨_, _, _, _, _, _, hshape⟩ := beforeWord_shape part s
      rw [hshape]
    rw [← hbefore]
    exact sendSlot_drops _ _

/-- Settles O55: the bound by the acts on the reports, and the order by what each command appends. -/
theorem reportQueueStaysBoundedAndInOrder : Obligations.ReportQueueStaysBoundedAndInOrder := by
  refine ⟨keptByStep_of_effect (fun _ s h => reportsBounded_recordActs.frame s _ rfl rfl h) reportsBounded_effect, ?_⟩
  intro c s t hexec hc
  rw [effect_eq_of_exec hexec]
  by_cases hslot : ∃ part, c = .slotStart part
  · obtain ⟨part, rfl⟩ := hslot
    have hdrops : ∃ n more, (effect (.slotStart part) s).reports.records = s.reports.records.drop n ++ more ∧ n ≤ 1 :=
      unlessReset_keeps (P := fun t => ∃ n more, t.reports.records = s.reports.records.drop n ++ more ∧ n ≤ 1)
        ⟨0, [], by simp, Nat.zero_le _⟩ (slotStart_drops part s)
    obtain ⟨n, more, hrecords, hn⟩ := hdrops
    exact ⟨n, more, hrecords, hn, fun hnot => absurd rfl (hnot part)⟩
  · obtain ⟨⟨more, hmore⟩, hsent⟩ := (reportsAppended_recordActs s).effect
      (fun part hpart => absurd ⟨part, hpart⟩ hslot) (fun _ h => h) (fun _ h => h) hc (reportsAppended_refl s)
    exact ⟨0, more, hmore, Nat.zero_le _, fun _ => ⟨rfl, hsent⟩⟩

/-! ## The head table (R49–R60) -/

/-- A claim of the head table alone: a record that is queued leaves it. -/
theorem recordActs_of_heads {P : State → Prop} (hframe : ∀ s t, t.heads = s.heads → P s → P t)
    (hcapture : ∀ x h n v s, P s → P (captureCode x h n v s)) : RecordActs P where
  frame s t _ := hframe s t
  queue r s := hframe s _ (by simp)
  capture := hcapture

theorem headRec_congr {s t : State} (hheads : t.heads = s.heads) (x : Side) (h : Fin 12) :
    t.headRec x h = s.headRec x h := by
  simp only [State.headRec, hheads]

/-- A capture stores the value, or the ceiling where the value is above it, in the head's record alone (R53). -/
theorem captureCode_headRec (x : Side) (h : Fin 12) (n : CodeName) (v : Nat) (s : State) (y : Side) (g : Fin 12) :
    (captureCode x h n v s).headRec y g =
      if y = x ∧ g = h then (s.headRec x h).withCode n (min v (s.headRec x h).image.ceiling) else s.headRec y g := by
  rcases Nat.lt_or_ge (s.headRec x h).image.ceiling v with hlt | hle
  · rw [captureCode_of_ceiling_lt n hlt, headRec_congr (raiseEvent_heads _ _ _ _), headRec_setHead,
      Nat.min_eq_right hlt.le]
  · rw [captureCode_of_le_ceiling n hle, headRec_setHead, Nat.min_eq_left hle]

/-- The records after a thermal expiry (R118). -/
theorem headRec_heatHeads (s : State) (x : Side) (h : Fin 12) :
    State.headRec { s with heads := heatHeads s } x h = heatRecord s x h := by
  cases x <;> simp [State.headRec, heatHeads]

/-- The records after a load (R58). -/
theorem headRec_applyImage (image : List Word) (s : State) (x : Side) (h : Fin 12) :
    (applyImage image s).headRec x h = (s.headRec x h).reloaded (imageHead image (imageHeadIndex x h)) := by
  cases x <;> simp [State.headRec, applyImage, reloadHeads]

/-! ### Who changes what -/

/-- A claim of one record's parts that every capture into it keeps. -/
theorem recordActs_of_record {Q : HeadRecord → Prop} (x : Side) (h : Fin 12)
    (hcode : ∀ r n v, Q r → Q (r.withCode n v)) : RecordActs fun t => Q (t.headRec x h) := by
  refine recordActs_of_heads (fun s t hheads hs => ?_) fun y g n v s hs => ?_
  · rw [headRec_congr hheads]
    exact hs
  · rw [captureCode_headRec]
    split
    · rename_i hxy
      obtain ⟨rfl, rfl⟩ := hxy
      exact hcode _ _ _ hs
    · exact hs

/-- Such a claim after a command: thermal expiries and loads are looked at on their own. -/
theorem headRec_effect {Q : HeadRecord → Prop} {c : Instr} {s : State} (x : Side) (h : Fin 12)
    (hcode : ∀ r n v, Q r → Q (r.withCode n v))
    (hheat : c = .thermalExpiry → Q (s.headRec x h) → Q (heatRecord s x h))
    (hload : c = .loadNRise → ∀ image, Q (s.headRec x h) → Q ((s.headRec x h).reloaded image))
    (hc : c ≠ .rstNAssert) (hs : Q (s.headRec x h)) : Q ((effect c s).headRec x h) := by
  refine (recordActs_of_record x h hcode).effect (fun _ _ u hu => ?_) (fun hthermal hu => ?_) (fun hrise hu => ?_) hc hs
  · have hheads : (sendReport u).heads = u.heads := by
      unfold sendReport
      split
      · rfl
      · simp only [putWord]
        split <;> rfl
    rw [headRec_congr hheads]
    exact hu
  · rw [headRec_heatHeads]
    exact hheat hthermal hu
  · rw [headRec_applyImage]
    exact hload hrise _ hu

/-- Settles O31: each part of a record by the commands that may write it. -/
theorem headRecordPartsHaveOwners : Obligations.HeadRecordPartsHaveOwners := by
  intro c s t hexec hc x h
  rw [effect_eq_of_exec hexec]
  have hlower : ∀ (n : Nat) (o : Option Nat), o ≠ none → lowerCode n o ≠ none := by
    intro n o ho
    simpa [lowerCode] using ho
  refine ⟨fun hrise => ?_, fun hthermal => ?_, fun hpresent => ?_, fun hpresent => ?_⟩
  · refine headRec_effect (Q := fun r => r.image = (s.headRec x h).image) x h ?_ (fun _ hr => hr)
      (fun hload => absurd hload hrise) hc rfl
    rintro r (_ | _) v hr <;> exact hr
  · refine headRec_effect (Q := fun r => r.heat = (s.headRec x h).heat) x h ?_
      (fun hexpiry => absurd hexpiry hthermal) (fun _ _ hr => hr) hc rfl
    rintro r (_ | _) v hr <;> exact hr
  · refine headRec_effect (Q := fun r => r.threshold ≠ none) x h ?_ (fun _ hr => hr)
      (fun _ image => hlower _ _) hc hpresent
    rintro r (_ | _) v hr
    · exact Option.some_ne_none v
    · exact hr
  · refine headRec_effect (Q := fun r => r.operating ≠ none) x h ?_ (fun _ hr => hr)
      (fun _ image => hlower _ _) hc hpresent
    rintro r (_ | _) v hr
    · exact hr
    · exact Option.some_ne_none v

/-! ### The ranges -/

theorem bitField_lt (w : Word) (low width : Nat) : bitField w low width < 2 ^ width :=
  Nat.mod_lt _ (Nat.two_pow_pos width)

/-- An image part of the loader is in its ranges, by the widths of its fields and the clamps of R50; codes lowered to
its ceiling are too (R58). -/
theorem reloaded_inRange (image : List Word) (n : Nat) {r : HeadRecord} (h : r.inRange) :
    (r.reloaded (imageHead image n)).inRange := by
  have hlower : ∀ (m : Nat) (o : Option Nat) (v : Nat), lowerCode m o = some v → v ≤ m := by
    intro m o v ho
    cases o with
    | none => simp [lowerCode] at ho
    | some u =>
      simp only [lowerCode, Option.map_some, Option.some.injEq] at ho
      omega
  obtain ⟨-, -, -, -, -, -, -, -, -, -, -, hheat⟩ := h
  have hbits := bitField_lt
  unfold HeadRecord.inRange
  refine ⟨?_, ?_, ?_, ?_, ?_, ?_, ?_, ?_, ?_, hlower _ _, hlower _ _, hheat⟩
  · exact Nat.le_of_lt_succ (hbits _ 0 10)
  · exact Nat.le_of_lt_succ (hbits _ 8 8)
  · exact Nat.le_of_lt_succ (hbits _ 0 6)
  · exact Nat.min_le_right _ _
  · exact Nat.max_le.mpr ⟨Nat.le_of_lt_succ (hbits _ 0 8), by decide⟩
  · exact Nat.min_le_right _ _
  · exact Nat.le_of_lt_succ (hbits _ 0 8)
  · exact Nat.le_of_lt_succ (hbits _ 0 8)
  · exact fun _ => Nat.le_max_right _ _

/-- A captured code is at most the ceiling (R53). -/
theorem withCode_inRange {r : HeadRecord} (h : r.inRange) (n : CodeName) (v : Nat) :
    (r.withCode n (min v r.image.ceiling)).inRange := by
  have hmin : ∀ u, some (min v r.image.ceiling) = some u → u ≤ r.image.ceiling := by
    intro u hu
    rw [← Option.some.inj hu]
    exact Nat.min_le_right _ _
  obtain ⟨h1, h2, h3, h4, h5, h6, h7, h8, h9, ht, ho, hheat⟩ := h
  cases n with
  | threshold => exact ⟨h1, h2, h3, h4, h5, h6, h7, h8, h9, hmin, ho, hheat⟩
  | operating => exact ⟨h1, h2, h3, h4, h5, h6, h7, h8, h9, ht, hmin, hheat⟩

/-- The heat saturates (R118). -/
theorem heatRecord_inRange {s : State} {x : Side} {h : Fin 12} (hr : (s.headRec x h).inRange) :
    (heatRecord s x h).inRange := by
  obtain ⟨h1, h2, h3, h4, h5, h6, h7, h8, h9, ht, ho, -⟩ := hr
  exact ⟨h1, h2, h3, h4, h5, h6, h7, h8, h9, ht, ho, Nat.min_le_right _ _⟩

theorem HeadsInRange.congr {s t : State} (hheads : t.heads = s.heads) (h : HeadsInRange s) : HeadsInRange t :=
  fun x g => by rw [headRec_congr hheads]; exact h x g

theorem headsInRange_recordActs : RecordActs HeadsInRange := by
  refine recordActs_of_heads (fun s t => HeadsInRange.congr) fun x h n v s hs y g => ?_
  rw [captureCode_headRec]
  split
  · exact withCode_inRange (hs x h) n v
  · exact hs y g

theorem headsInRange_effect (c : Instr) (s : State) (h : HeadsInRange s) : HeadsInRange (effect c s) := by
  by_cases hc : c = .rstNAssert
  · subst hc
    intro x g
    have hreset : (effect .rstNAssert s).headRec x g = .reset := by
      cases x <;> simp [effect, exec, execRstNAssert, rstNAssert, State.reset, State.headRec, PerSide.both]
    rw [hreset]
    simp [HeadRecord.inRange, HeadRecord.reset]
  · refine headsInRange_recordActs.effect (fun _ _ u hu => ?_) (fun _ hu x g => ?_) (fun _ hu x g => ?_) hc h
    · unfold sendReport
      split
      · exact hu
      · simp only [putWord]
        split <;> exact hu
    · rw [headRec_heatHeads]
      exact heatRecord_inRange (hu x g)
    · rw [headRec_applyImage]
      exact reloaded_inRange _ _ (hu x g)

/-- Settles O32. -/
theorem headRecordsStayInRange : Obligations.HeadRecordsStayInRange :=
  keptByStep_of_effect (fun _ _ => HeadsInRange.congr rfl) headsInRange_effect

end Sys2Proof.Machine
end

section
/-!
PROOFS. The link forwarder's bounds (R5, R8, R12, R13). A held entry that is released is counted on the emission list
instead of the held-write queue, and each position of a block adds at most two words to the two together.
-/

namespace Sys2Proof.Machine

/-! ## What the acts on the channels do to the link -/

/-- A transaction of one word for some preamplifier. -/
def Txn.oneWord (t : Txn) : Prop := (t.toA = true ∨ t.toB = true) ∧ t.words.length = 1

/-- From `s` to `t` held entries were released: for each transaction appended to the emission list the queue is an entry
shorter, and nothing else of the link has changed. -/
def Released (s t : State) : Prop :=
  ∃ l : List Txn, t.link = { s.link with emission := s.link.emission ++ l } ∧ (∀ u ∈ l, u.oneWord) ∧
    l.length + t.held.length ≤ s.held.length

theorem released_refl (s : State) : Released s s := ⟨[], by simp, by simp, by simp⟩

/-- Leaving the episode states releases the channel's entries (R42, R44, R92). -/
theorem Released.leave {s t : State} (x : Side) (d : ChanState) (o : EpisodeOutcome) (h : Released s t) :
    Released s (leaveEpisode x d o t) := by
  obtain ⟨l, hlink, hone, hlen⟩ := h
  refine ⟨l ++ (t.held.filter fun e => e.side = x).map HeldEntry.txn, ?_, ?_, ?_⟩
  · rw [leaveEpisode_link_eq, hlink]
    simp
  · intro u hu
    rcases List.mem_append.mp hu with hu | hu
    · exact hone u hu
    · obtain ⟨e, -, rfl⟩ := List.mem_map.mp hu
      refine ⟨?_, rfl⟩
      cases hside : e.side <;> simp [HeldEntry.txn, hside]
  · rw [leaveEpisode_held_eq]
    have hsplit := List.length_eq_length_filter_add (l := t.held) fun e => decide (e.side = x)
    simp only [List.length_append, List.length_map, decide_not] at hsplit ⊢
    omega

/-- So the acts on the channels release held entries and leave the link otherwise. -/
theorem released_sharedActs (s : State) : SharedActs (Released s) where
  frame t u _ _ hheld hlink h := by
    unfold Released
    rw [hheld, hlink]
    exact h
  queue r t h := by
    unfold Released
    rw [queueReport_link, queueReport_held]
    exact h
  leave x d o t h := h.leave x d o

theorem Released.congr {s t u : State} (hlink : u.link = t.link) (hheld : u.held = t.held) (h : Released s t) :
    Released s u := by
  unfold Released
  rw [hlink, hheld]
  exact h

/-! ## Words -/

/-- An offered word is not forwarded, and adds at most one entry, up to 8 (R37–R39). -/
theorem offerHeld_counts (p : Side) (i : Fin 16) (g : Fin 12) (a : RegAddr) (w : Word) (s : State) :
    (offerHeld p i g a w s).2 ≠ .forward ∧ (offerHeld p i g a w s).1.held.length ≤ s.held.length + 1 ∧
      (s.held.length ≤ 8 → (offerHeld p i g a w s).1.held.length ≤ 8) := by
  unfold offerHeld
  split
  · rename_i e hfound
    have hfewer : (s.held.filter fun f => !f.hasKey p a).length < s.held.length :=
      List.length_filter_lt_length_iff_exists.mpr
        ⟨e, List.mem_of_find?_eq_some hfound, by simpa using List.find?_some hfound⟩
    refine ⟨by simp, ?_, fun h8 => ?_⟩ <;>
      simp only [State.setHeld_held, List.length_append, List.length_singleton] <;> omega
  · split
    · rename_i hroom
      refine ⟨by simp, by simp, fun _ => ?_⟩
      simp only [State.setHeld_held, List.length_append, List.length_singleton]
      exact hroom
    · exact ⟨by simp, by simp, by simp⟩

/-- What the disposition of a word does: a word that is not forwarded is offered, and every other word releases held
entries at most. -/
theorem classifyWord_counts (p : Side) (a : RegAddr) (w : Word) (s : State) :
    ((classifyWord p a w s).2 = .forward ∧ Released s (classifyWord p a w s).1) ∨
      ((classifyWord p a w s).2 ≠ .forward ∧ (classifyWord p a w s).1.link = s.link ∧
        (classifyWord p a w s).1.held.length ≤ s.held.length + 1 ∧
        (s.held.length ≤ 8 → (classifyWord p a w s).1.held.length ≤ 8)) := by
  have hs := released_refl s
  have hvalue : ∀ i win, ((valueWord p i win a w s).2 = .forward ∧ Released s (valueWord p i win a w s).1) ∨
      ((valueWord p i win a w s).2 ≠ .forward ∧ (valueWord p i win a w s).1.link = s.link ∧
        (valueWord p i win a w s).1.held.length ≤ s.held.length + 1 ∧
        (s.held.length ≤ 8 → (valueWord p i win a w s).1.held.length ≤ 8)) := by
    intro i win
    unfold valueWord
    split
    · exact .inl ⟨rfl, hs⟩
    · split
      · split
        · obtain ⟨hd, hlen, h8⟩ := offerHeld_counts p i ⟨_, ‹_ < 12›⟩ a w s
          exact .inr ⟨hd, by simp, hlen, h8⟩
        · exact .inl ⟨rfl, hs.congr (by simp) (by simp)⟩
      · exact .inl ⟨rfl, hs⟩
  unfold classifyWord
  split
  · exact .inl ⟨rfl, hs⟩
  · dsimp only
    split
    · exact .inl ⟨rfl, (released_sharedActs s).controlWord p _ w hs⟩
    · exact hvalue _ _
    · exact hvalue _ _
    · exact .inl ⟨rfl, hs.congr (by simp) (by simp)⟩
    · exact .inl ⟨rfl, hs.congr (by simp) (by simp)⟩

/-- A word for one preamplifier is forwarded, or takes at most one entry of the queue; what it releases leaves the
queue. -/
theorem processWord_counts (p : Side) (a : RegAddr) (w : Word) (s : State) :
    ∃ l : List Txn, (processWord p a w s).1.link = { s.link with emission := s.link.emission ++ l } ∧
      (∀ u ∈ l, u.oneWord) ∧
      l.length + (processWord p a w s).1.held.length + (if (processWord p a w s).2 = .forward then 1 else 0) ≤
        s.held.length + 1 ∧
      (s.held.length ≤ 8 → (processWord p a w s).1.held.length ≤ 8) := by
  unfold processWord
  simp only [traceWord_link, traceWord_held]
  rcases classifyWord_counts p a w s with ⟨hd, l, hlink, hone, hlen⟩ | ⟨hd, hlink, hlen, h8⟩
  · exact ⟨l, hlink, hone, by rw [if_pos hd]; omega, by omega⟩
  · exact ⟨[], by simp [hlink], by simp, by rw [if_neg hd]; simpa using hlen, h8⟩

/-- The same for one target of a position, given an empty emission list or what the target before it released. -/
theorem processTarget_counts (p : Side) (target : Bool) (a : RegAddr) (w : Word) (s : State) :
    ∃ l : List Txn, (processTarget p target a w s).1.link = { s.link with emission := s.link.emission ++ l } ∧
      (∀ u ∈ l, u.oneWord) ∧
      l.length + (processTarget p target a w s).1.held.length + (if (processTarget p target a w s).2 then 1 else 0) ≤
        s.held.length + 1 ∧
      (s.held.length ≤ 8 → (processTarget p target a w s).1.held.length ≤ 8) := by
  unfold processTarget
  split
  · simpa using processWord_counts p a w s
  · exact ⟨[], by simp, by simp, by simp, by simp⟩

/-! ## Blocks -/

/-- A transaction as the emission list may hold it (R5, R8). -/
def Txn.bounded (t : Txn) : Prop := (t.toA = true ∨ t.toB = true) ∧ 1 ≤ t.words.length ∧ t.words.length ≤ 16

theorem Txn.oneWord.bounded {t : Txn} (h : t.oneWord) : t.bounded := ⟨h.1, by rw [h.2], by rw [h.2]; decide⟩

theorem emissionWords_append (l m : List Txn) : emissionWords (l ++ m) = emissionWords l + emissionWords m := by
  simp [emissionWords]

theorem emissionWords_of_oneWord {l : List Txn} (h : ∀ u ∈ l, u.oneWord) : emissionWords l = l.length := by
  induction l with
  | nil => rfl
  | cons t l ih =>
    have ht : t.words.length = 1 := (h t (List.mem_cons_self)).2
    have hl := ih fun u hu => h u (List.mem_cons_of_mem _ hu)
    simp only [emissionWords, List.map_cons, List.sum_cons, List.length_cons] at hl ⊢
    omega

/-- The bounds of a block in work with `n` positions to come: each can add two words to the emission list and the
held-write queue together, and one to the open run (R8, R9). -/
structure BlockBounded (s : State) (run : Option Txn) (n : Nat) : Prop where
  buffer : s.link.buffer = none
  sending : s.link.sending = false
  held : s.held.length ≤ 8
  words : emissionWords s.link.emission + emissionWords run.toList + s.held.length + 2 * n ≤ 40
  txns : ∀ t ∈ s.link.emission, t.bounded
  run : ∀ t, run = some t → (t.toA = true ∨ t.toB = true) ∧ 1 ≤ t.words.length ∧ t.words.length + n ≤ 16

/-- The runs that a position closes and leaves open have its word more than before, when it is forwarded (R9). -/
theorem extendRun_counts {run : Option Txn} (toA toB : Bool) (kept : BitVec 6) (a : RegAddr) (w : Word) {n : Nat}
    (hn : n + 1 ≤ 16)
    (hrun : ∀ t, run = some t → (t.toA = true ∨ t.toB = true) ∧ 1 ≤ t.words.length ∧ t.words.length + (n + 1) ≤ 16) :
    emissionWords (extendRun run toA toB kept a w).1 + emissionWords (extendRun run toA toB kept a w).2.toList =
        emissionWords run.toList + (if toA || toB then 1 else 0) ∧
      (∀ t ∈ (extendRun run toA toB kept a w).1, t.bounded) ∧
      ∀ t, (extendRun run toA toB kept a w).2 = some t →
        (t.toA = true ∨ t.toB = true) ∧ 1 ≤ t.words.length ∧ t.words.length + n ≤ 16 := by
  have hfresh : ∀ t, (if toA || toB then some (⟨toA, toB, kept, a, [w]⟩ : Txn) else none) = some t →
      (t.toA = true ∨ t.toB = true) ∧ 1 ≤ t.words.length ∧ t.words.length + n ≤ 16 := by
    intro t ht
    split at ht
    · rename_i hpair
      obtain rfl := Option.some.inj ht
      exact ⟨by simpa using hpair, by simp, by simp; omega⟩
    · cases ht
  have hone : emissionWords (if toA || toB then some (⟨toA, toB, kept, a, [w]⟩ : Txn) else none).toList =
      if toA || toB then 1 else 0 := by
    split <;> rfl
  unfold extendRun
  dsimp only
  split
  · rename_i t
    obtain ⟨htarget, hpos, hlen⟩ := hrun t rfl
    split
    · rename_i hpair
      obtain ⟨hA, hB⟩ : t.toA = toA ∧ t.toB = toB := by simpa using hpair
      refine ⟨?_, by simp, ?_⟩
      · have hforward : (toA || toB) = true := by simpa [← hA, ← hB] using htarget
        simp [emissionWords, hforward]
      · intro u hu
        obtain rfl := Option.some.inj hu
        exact ⟨htarget, by simp, by simp; omega⟩
    · refine ⟨?_, ?_, hfresh⟩
      · rw [hone]
        rfl
      · intro u hu
        obtain rfl := List.mem_singleton.mp hu
        exact ⟨htarget, hpos, by omega⟩
  · exact ⟨by rw [hone]; rfl, by simp, hfresh⟩

/-- A position keeps the bounds, with one position less to come (R7, R9, R10). -/
theorem processPosition_bounded (b : BlockWrite) (a : RegAddr) (w : Word) {s : State} {run : Option Txn} {n : Nat}
    (hn : n + 1 ≤ 16) (h : BlockBounded s run (n + 1)) :
    BlockBounded (processPosition b a w s run).1 (processPosition b a w s run).2 n := by
  obtain ⟨hbuffer, hsending, hheld, hwords, htxns, hrun⟩ := h
  obtain ⟨la, hla, hAone, hAcount, hA8⟩ := processTarget_counts .a b.toA a w (s.setEmission [])
  obtain ⟨lb, hlb, hBone, hBcount, hB8⟩ :=
    processTarget_counts .b b.toB a w (processTarget .a b.toA a w (s.setEmission [])).1
  obtain ⟨hcount, hclosed, hopen⟩ := extendRun_counts (run := run) (processTarget .a b.toA a w (s.setEmission [])).2
    (processTarget .b b.toB a w (processTarget .a b.toA a w (s.setEmission [])).1).2 b.kept a w hn hrun
  have hreleased : ∀ u ∈ la ++ lb, u.oneWord := fun u hu => (List.mem_append.mp hu).elim (hAone u) (hBone u)
  rw [hla] at hlb
  have hemission : (processTarget .b b.toB a w (processTarget .a b.toA a w (s.setEmission [])).1).1.link.emission =
      la ++ lb := by rw [hlb]; rfl
  have hfree : (processTarget .b b.toB a w (processTarget .a b.toA a w (s.setEmission [])).1).1.link.buffer = none := by
    rw [hlb]; exact hbuffer
  have hhigh :
      (processTarget .b b.toB a w (processTarget .a b.toA a w (s.setEmission [])).1).1.link.sending = false := by
    rw [hlb]; exact hsending
  have hsum : emissionWords (la ++ lb) = la.length + lb.length := by
    rw [emissionWords_of_oneWord hreleased, List.length_append]
  simp only [State.setEmission_held] at hAcount hA8
  have hpair : (if (processTarget .a b.toA a w (s.setEmission [])).2 ||
      (processTarget .b b.toB a w (processTarget .a b.toA a w (s.setEmission [])).1).2 then 1 else 0) ≤
      (if (processTarget .a b.toA a w (s.setEmission [])).2 then 1 else 0) +
        (if (processTarget .b b.toB a w (processTarget .a b.toA a w (s.setEmission [])).1).2 then 1 else 0) := by
    cases (processTarget .a b.toA a w (s.setEmission [])).2 <;>
      cases (processTarget .b b.toB a w (processTarget .a b.toA a w (s.setEmission [])).1).2 <;> decide
  unfold processPosition
  dsimp only
  rw [hemission]
  split
  · rename_i hempty
    have hnone : la.length + lb.length = 0 := by
      rw [← List.length_append]
      exact List.length_eq_zero_iff.mpr (List.isEmpty_iff.mp hempty)
    refine ⟨hfree, hhigh, hB8 (hA8 hheld), ?_, ?_, hopen⟩
    · simp only [State.setEmission_held, State.setEmission_link, emissionWords_append]
      omega
    · intro t ht
      exact (List.mem_append.mp ht).elim (htxns t) (hclosed t)
  · refine ⟨hfree, hhigh, hB8 (hA8 hheld), ?_, ?_, by simp⟩
    · have hnil : emissionWords (none : Option Txn).toList = 0 := rfl
      simp only [State.setEmission_held, State.setEmission_link, emissionWords_append, hsum]
      omega
    · intro t ht
      simp only [State.setEmission_link, List.mem_append, Option.mem_toList] at ht
      rcases ht with ((ht | ht) | ht) | ht
      · exact htxns t ht
      · exact hclosed t ht
      · obtain ⟨htarget, hpos, hlen⟩ := hopen t ht
        exact ⟨htarget, hpos, by omega⟩
      · exact (hreleased t (List.mem_append.mpr ht)).bounded

/-- A block leaves the emission list and the queue within 40 words together, and nothing else of the link changes (R5,
R8, R9). -/
theorem processBlock_bounded (b : BlockWrite) (words : List Word) : ∀ (a : RegAddr) (s : State) (run : Option Txn),
    words.length ≤ 16 → BlockBounded s run words.length →
      BlockBounded (processBlock b a words s run) none 0 := by
  induction words with
  | nil =>
    intro a s run _ h
    obtain ⟨hbuffer, hsending, hheld, hwords, htxns, hrun⟩ := h
    refine ⟨hbuffer, hsending, hheld, ?_, ?_, by simp⟩
    · have hnil : emissionWords (none : Option Txn).toList = 0 := rfl
      simp only [processBlock, State.setEmission_held, State.setEmission_link, emissionWords_append,
        List.length_nil] at hwords ⊢
      omega
    · intro t ht
      simp only [processBlock, State.setEmission_link, List.mem_append, Option.mem_toList] at ht
      rcases ht with ht | ht
      · exact htxns t ht
      · obtain ⟨htarget, hpos, hlen⟩ := hrun t ht
        exact ⟨htarget, hpos, by omega⟩
  | cons w rest ih =>
    intro a s run hlen h
    exact ih _ _ _ (by simp at hlen; omega) (processPosition_bounded b a w (by simpa using hlen) h)

/-! ## The commands -/

/-- A change of the link alone keeps the bounds, when it leaves the emission list, keeps the block buffer short, and
gives the downstream link to the emitter or to a read, not to both. -/
theorem LinkBounded.withLink {s : State} {l : Link} (h : LinkBounded s) (hemission : l.emission = s.link.emission)
    (hbuffer : ∀ b, l.buffer = some b → b.words.length ≤ 16)
    (hsending : l.sending = true → l.emission ≠ [] ∧ ∀ r, l.upstream = .reading r → r.phase ≠ .forwarded) :
    LinkBounded (s.withLink l) := by
  obtain ⟨hheld, hwords, -, htxns, -⟩ := h
  exact ⟨hheld, by rwa [withLink_link, hemission], hbuffer, by rwa [withLink_link, hemission], hsending⟩

/-- Nor do the acts of the other commands break them: what leaves the queue is a word each on the list (R8, R44). -/
theorem LinkBounded.released {s t : State} (h : LinkBounded s) (ht : Released s t) : LinkBounded t := by
  obtain ⟨hheld, hwords, hbuffer, htxns, hsending⟩ := h
  obtain ⟨l, hlink, hone, hlen⟩ := ht
  have hsum := emissionWords_of_oneWord hone
  refine ⟨by omega, ?_, by rwa [hlink], ?_, ?_⟩
  · rw [hlink, emissionWords_append]
    omega
  · intro u hu
    rw [hlink] at hu
    exact (List.mem_append.mp hu).elim (htxns u) fun hu => (hone u hu).bounded
  · intro hs
    rw [hlink] at hs ⊢
    obtain ⟨hne, hread⟩ := hsending hs
    exact ⟨by simp [hne], hread⟩

theorem BlockBounded.linkBounded {s : State} (h : BlockBounded s none 0) : LinkBounded s := by
  obtain ⟨hbuffer, hsending, hheld, hwords, htxns, -⟩ := h
  have hnil : emissionWords (none : Option Txn).toList = 0 := rfl
  exact ⟨hheld, by omega, by simp [hbuffer], htxns, by simp [hsending]⟩

theorem LinkBounded.settleUlwt {s : State} (h : LinkBounded s) : LinkBounded (settleUlwt s) := by
  unfold Machine.settleUlwt
  split
  · exact h
  · exact h

/-- A write that is taken (R4–R9, R17). -/
theorem LinkBounded.writeTaken {s : State} (h : LinkBounded s) : LinkBounded (writeTaken s) := by
  obtain ⟨hheld, hwords, hbuffer, htxns, hsending⟩ := id h
  unfold Machine.writeTaken
  split
  · exact h
  · rename_i b hb
    split
    · rename_i hempty
      have hempty := List.isEmpty_iff.mp hempty
      have hhigh : s.link.sending = false := by
        rw [← Bool.not_eq_true]
        exact fun hs => (hsending hs).1 hempty
      have hfreed : LinkBounded { s with link := { s.link with buffer := none } } :=
        ⟨hheld, hwords, by simp, htxns, by simp [hhigh]⟩
      refine LinkBounded.settleUlwt ?_
      split
      · exact hfreed
      · rename_i htarget
        split
        · unfold processWrite
          refine (processBlock_bounded b b.words b.addr _ none (hbuffer b hb) ?_).linkBounded
          have hstart : ∀ u : State, u.link = { s.link with buffer := none } → u.held = s.held →
              BlockBounded u none b.words.length := by
            intro u hu hv
            have hzero : emissionWords u.link.emission = 0 := by rw [hu]; simp [hempty, emissionWords]
            have hnil : emissionWords (none : Option Txn).toList = 0 := rfl
            have hlen := hbuffer b hb
            exact ⟨by rw [hu], by rw [hu]; exact hhigh, by rwa [hv], by rw [hv]; omega, by rw [hu]; simp [hempty],
              by simp⟩
          split
          · unfold raiseOverlong
            dsimp only
            exact hstart _ (by split <;> split <;> simp) (by split <;> split <;> simp)
          · exact hstart _ rfl rfl
        · unfold passRaw
          split
          · exact hfreed
          · rename_i hne
            have hlen := hbuffer b hb
            have hpos : 1 ≤ b.words.length := by
              rw [Nat.one_le_iff_ne_zero, ne_eq, List.length_eq_zero_iff]
              simpa using hne
            refine ⟨hheld, ?_, by simp, ?_, by simp [hhigh]⟩
            · simp [hempty, emissionWords]
              omega
            · simp only [State.setEmission_link, hempty, List.nil_append, List.mem_singleton, forall_eq]
              refine ⟨?_, hpos, hlen⟩
              cases hA : b.toA <;> cases hB : b.toB <;> simp_all
    · exact h

/-- The commands of the link (R1–R16). -/
theorem LinkBounded.link_effect {c : Instr} {s : State} (h : LinkBounded s) (hc : onLink c = true) :
    LinkBounded (effect c s) := by
  obtain ⟨hheld, hwords, hbuffer, htxns, hsending⟩ := id h
  cases c with
  | ulenFall =>
    change LinkBounded (ulenFall s)
    unfold ulenFall
    split
    · split <;> exact h.withLink rfl hbuffer fun hs => ⟨(hsending hs).1, by simp⟩
    all_goals exact h
  | ulenRise words =>
    change LinkBounded (ulenRise words s)
    unfold ulenRise
    dsimp only
    split
    · split
      · rename_i b hb
        refine h.withLink rfl ?_ fun hs => ⟨(hsending hs).1, by simp⟩
        intro b' hb'
        obtain rfl := Option.some.inj hb'
        unfold receiveWrite at hb
        dsimp only at hb
        split at hb
        · cases hb
        · split at hb
          · cases hb
          · split at hb
            · cases hb
            · obtain rfl := Option.some.inj hb
              simp
      · exact h.withLink rfl hbuffer fun hs => ⟨(hsending hs).1, by simp⟩
    · exact h.withLink rfl hbuffer fun hs => ⟨(hsending hs).1, by simp⟩
    · exact h.withLink rfl hbuffer fun hs => ⟨(hsending hs).1, by simp⟩
    · exact h
  | readHeader header =>
    refine unlessReset_keeps h ?_
    unfold readHeader
    dsimp only
    split
    · split <;> exact h.withLink rfl hbuffer fun hs => ⟨(hsending hs).1, by rintro r ⟨⟩; simp⟩
    · exact h
  | forwardedReadStart =>
    refine unlessReset_keeps h ?_
    unfold forwardedReadStart
    split
    · split
      · rename_i hfree
        exact h.withLink rfl hbuffer fun hs => absurd hs (by simp at hfree; simp [hfree])
      · exact h
    all_goals exact h
  | readWord returned =>
    refine unlessReset_keeps h ?_
    unfold readWord
    split
    · rename_i r hr
      have hhand : ∀ (w : Word) (u : State), LinkBounded u → u.link = s.link → LinkBounded (handUpstream r w u) := by
        intro w u hu hlink
        refine hu.withLink rfl (by rw [hlink]; exact hbuffer) fun hs => ?_
        rw [hlink] at hs ⊢
        exact ⟨(hsending hs).1, by rintro _ ⟨⟩; exact (hsending hs).2 r hr⟩
      split
      · split
        · refine hhand _ _ ?_ (by simp)
          exact h.released ((released_refl s).congr (by simp) (by simp))
        · exact hhand _ _ h rfl
      · exact h
    all_goals exact h
  | readAnswerFfff =>
    refine unlessReset_keeps h ?_
    unfold readAnswerFfff
    split
    · rename_i r hr
      split
      · exact h.withLink rfl hbuffer fun hs => ⟨(hsending hs).1, by rintro _ ⟨⟩; exact (hsending hs).2 r hr⟩
      · exact h
    all_goals exact h
  | writeTaken => exact unlessReset_keeps h h.writeTaken
  | emitterSend =>
    refine unlessReset_keeps h ?_
    unfold emitterSend
    split
    · exact h
    · rename_i t rest hlist
      split
      · exact h
      · rename_i hlow
        refine h.withLink rfl hbuffer fun _ => ⟨by simp [hlist], fun r hr hphase => hlow ?_⟩
        have hr : s.link.upstream = .reading r := hr
        simp [State.dlenLow, hr, hphase]
  | transactionSent =>
    refine unlessReset_keeps h ?_
    unfold transactionSent
    split
    · split
      · exact h
      · rename_i t rest hlist
        refine LinkBounded.settleUlwt ⟨hheld, ?_, hbuffer, ?_, by simp⟩
        · rw [hlist] at hwords
          simp only [emissionWords, List.map_cons, List.sum_cons] at hwords ⊢
          omega
        · exact fun u hu => htxns u (by rw [hlist]; exact List.mem_cons_of_mem _ hu)
    · exact h
  | _ => exact absurd hc Bool.false_ne_true

theorem linkBounded_effect (c : Instr) (s : State) (h : LinkBounded s) : LinkBounded (effect c s) := by
  by_cases hreset : c = .rstNAssert
  · subst hreset
    exact ⟨Nat.zero_le 8, Nat.zero_le 40, by rintro b ⟨⟩, by rintro t ⟨⟩, by rintro ⟨⟩⟩
  · by_cases hlink : onLink c = true
    · exact h.link_effect hlink
    · refine h.released ((released_sharedActs s).effect (fun part _ u hu => ?_) (fun _ hu => hu.congr rfl rfl)
        (fun _ hu => hu.congr rfl rfl) (fun hc => absurd hc hlink) hreset (released_refl s))
      refine hu.congr ?_ ?_ <;> (unfold sendReport; split; rfl; split <;> rfl)

/-- Settles O15: a word held, forwarded or released is counted once on the queue or the emission list. -/
theorem linkStaysBounded : Obligations.LinkStaysBounded :=
  keptByStep_of_effect (fun _ _ h => h) linkBounded_effect

end Sys2Proof.Machine
end

section
/-!
PROOFS. The machine as a whole and RST_N: the queue, the commands under RST_N, the reset state and the first slots
after it.
-/

namespace Sys2Proof.Machine

/-! ## The queue -/

/-- No act of a command reads or writes the queue. -/
theorem queue_keptByActs (q : List Instr) : KeptByActs (fun s => s.pending = q) where
  sample _ _ h := h
  writeGateLow _ _ h := h
  servoGate _ _ _ h := h
  frzGate _ _ h := h
  writeFall x s _ h := by
    unfold writeFall
    split
    · split <;> simpa using h
    · exact h
  servoRise x s _ h := by
    unfold servoRise servoOverlap
    split
    · split <;> simpa using h
    all_goals exact h
  freezeRise _ _ h := by simpa using h
  freezeFall _ _ h := by simpa using h
  arbiterStart s h := by
    obtain ⟨e, he⟩ := arbiterStart_changes_engine s
    rw [he]
    exact h
  computationEnd s h := by
    unfold computationEnd
    split <;> exact h
  leadExpiry x s h := by
    unfold leadExpiry
    split <;> exact h
  kickExpiry x s h := by
    unfold kickExpiry
    split <;> exact h
  dwellExpiry x s h := by
    unfold dwellExpiry
    split
    · simpa using h
    · exact h
  loadWord w s h := by
    unfold loadWord
    split <;> exact h
  loadPortArmed _ h := h
  rstNRelease _ h := h
  link _ _ h := h
  kinds _ _ _ h := h
  report _ _ h := by simpa using h
  capture _ _ _ _ _ h := by simpa using h
  offer _ _ _ _ _ _ _ h := by simpa using h
  control _ _ _ _ _ h := by simpa using h

theorem sendLevel_pending (x : Side) (s : State) : (sendLevel x s).pending = s.pending := by
  have hmark : (markReduced x s).pending = s.pending := by
    unfold markReduced
    dsimp only
    split <;> simp
  unfold sendLevel
  dsimp only
  split
  · exact hmark
  · rfl

theorem sendReport_pending (s : State) : (sendReport s).pending = s.pending := by
  unfold sendReport
  split
  · rfl
  · split <;> rfl

theorem slotStart_pending (part : SlotPart) (s : State) : (slotStart part s).pending = s.pending := by
  refine slotStart_keeps (P := fun t => t.pending = s.pending) ?_ ?_ ?_ ?_ ?_ ?_ part s rfl
  · exact fun k m u hu => hu
  · exact fun u hu => hu
  · exact fun u hu => hu
  · exact fun u hu => hu
  · exact fun u hu => hu
  · intro k u hu
    exact sendSlot_keeps (P := fun t => t.pending = s.pending) hu (fun _ => hu)
      (fun x _ => (sendLevel_pending x u).trans hu) ((sendReport_pending u).trans hu) hu k

/-- No command touches the queue. -/
theorem effect_pending (c : Instr) (s : State) : (effect c s).pending = s.pending := by
  refine (queue_keptByActs s.pending).effect rfl fun halone => ?_
  cases c with
  | writeGateRise x =>
    refine unlessReset_keeps (P := fun t => t.pending = s.pending) rfl ?_
    refine takeEdge_keeps (P := fun t => t.pending = s.pending) rfl rfl fun _ h => ?_
    rw [← h]
    unfold writeRise lenientWrite earlyGate
    split
    · simp
    · split <;> simp
    · simp
    · simp
    all_goals rfl
  | thermalExpiry =>
    refine unlessReset_keeps (P := fun t => t.pending = s.pending) rfl ?_
    have hpost : ∀ (x : Side) (u : State), (postRecompute x u).pending = u.pending := by
      intro x u
      unfold postRecompute
      split <;> simp
    unfold thermalExpiry
    split
    · rw [hpost, hpost]
    · rfl
  | slotStart part => exact unlessReset_keeps (P := fun t => t.pending = s.pending) rfl (slotStart_pending part s)
  | loadNFall =>
    refine unlessReset_keeps (P := fun t => t.pending = s.pending) rfl ?_
    have hreload : ∀ (x : Side) (u : State), (reloadChannel x u).pending = u.pending := by
      intro x u
      unfold reloadChannel
      split <;> simp
    unfold loadNFall quitConfigured
    dsimp only
    split
    · split
      · exact (hreload .b _).trans (hreload .a s)
      · rfl
    · rfl
  | loadNRise =>
    refine unlessReset_keeps (P := fun t => t.pending = s.pending) rfl ?_
    unfold loadNRise loadSucceeds loadFails
    dsimp only
    split
    · split
      · split
        · simp [applyImage]
        · rfl
      · simp
    · rfl
  | rstNAssert => rfl
  | _ => exact absurd halone Bool.false_ne_true

/-- The commands that RST_N does not hold off: RST_N's own two and the level of ULEN (R19). -/
theorem effect_under_rst {c : Instr} {s : State} (hrst : s.rst = true) (hassert : c ≠ .rstNAssert)
    (hrelease : c ≠ .rstNRelease) (hfall : c ≠ .ulenFall) (hrise : ∀ ws, c ≠ .ulenRise ws) : effect c s = s := by
  have hheld : ∀ f : State → State, unlessReset f s = s := fun f => if_pos hrst
  cases c with
  | rstNAssert => exact absurd rfl hassert
  | rstNRelease => exact absurd rfl hrelease
  | ulenFall => exact absurd rfl hfall
  | ulenRise ws => exact absurd rfl (hrise ws)
  | _ => exact hheld _

/-- Settles O2. -/
theorem everyCommandAnswersNext : Obligations.EveryCommandAnswersNext := fun c s =>
  ⟨completes_of_effect (effect_pending c s), fun hrst hassert hrelease hfall hrise => by
    rw [exec_eq_next, effect_under_rst hrst hassert hrelease hfall hrise]⟩

/-- Settles O1. -/
theorem stepRunsFrontCommand : Obligations.StepRunsFrontCommand :=
  ⟨fun _ _ _ => rfl, fun s hempty => by unfold step; rw [hempty]⟩

/-! ## RST_N -/

/-- Settles O3: every invariant is one of a state with nothing in it. -/
theorem resetMeetsInvariants : Obligations.ResetMeetsInvariants := by
  have hchan : ∀ x, State.reset.chan.get x = .reset := fun x => by cases x <;> rfl
  have hshadow : ∀ x, State.reset.shadow.get x = .unknown := fun x => by cases x <;> rfl
  have hepisode : ∀ x, State.reset.inEpisode x = false := fun x => by cases x <;> rfl
  have hheads : ∀ x h, State.reset.headRec x h = .reset := fun x h => by
    cases x <;> simp [State.reset, State.headRec, PerSide.both, PerSide.get]
  refine ⟨⟨by decide, by decide, by rintro b ⟨⟩, by rintro t ⟨⟩, by rintro ⟨⟩⟩, ⟨by decide, by decide, by rintro e ⟨⟩⟩,
    fun x h => ?_, ⟨fun x => ?_, fun x => ?_⟩, fun x hx => ?_, ⟨fun x hx => ?_, fun _ => ?_⟩, ⟨by decide, fun x => ?_⟩,
    by decide, rfl⟩
  · rw [hheads]
    simp [HeadRecord.reset, HeadRecord.inRange]
  · rw [hchan]
    simp [Channel.reset, Channel.wf, EpisodeRecord.cleared]
  · rw [hchan]
    cases x <;> simp [State.reset, PerSide.both, PerSide.get, Channel.reset]
  · rw [hepisode] at hx
    cases hx
  · cases x <;> exact absurd rfl hx
  · refine ⟨fun x => ⟨by rw [hchan]; rfl, by cases x <;> rfl, hshadow x⟩, rfl, fun i => ?_, fun i => ?_, fun k => ?_,
      rfl, rfl⟩
    · simp [State.reset, Window.disabled]
    · simp [State.reset, WatchEntry.disabled]
    · simp [State.reset, Framer.reset]
  · exact .inl (by cases x <;> rfl)

theorem abandonUpstream_of_open {u : Upstream} (h : u ≠ .closed) : abandonUpstream u = .ignored := by
  cases u with
  | closed => exact absurd rfl h
  | _ => rfl

/-- Settles O4. -/
theorem rstNAssertResetsEveryBlock : Obligations.RstNAssertResetsEveryBlock := by
  intro s
  have hboth : ∀ {α : Type} (v : α) (x : Side), (PerSide.both v).get x = v := fun v x => by cases x <;> rfl
  have hread : ∀ r, abandonUpstream s.link.upstream ≠ .reading r := fun r => by
    cases s.link.upstream <;> simp [abandonUpstream]
  have hlow : (rstNAssert s).dlenLow = false := by
    unfold State.dlenLow
    split
    · rename_i r hr
      exact absurd hr (hread r)
    all_goals rfl
  refine ⟨rstNAssert s, rfl, rfl, rfl, rfl, rfl, rfl, rfl, rfl, rfl, rfl, hlow, fun h => ?_, abandonUpstream_of_open,
    fun i => ?_, fun i => ?_, rfl, hboth _, fun x h => ?_, rfl,
    fun x => ⟨hboth _ x, hboth _ x, ?_⟩, rfl, hboth _, rfl, hboth _, rfl, rfl, rfl, rfl, rfl, rfl, rfl, rfl,
    fun k => ?_, fun x => ⟨hboth _ x, hboth _ x, hboth _ x⟩, rfl, rfl, rfl, rfl, rfl,
    fun x => ⟨hboth _ x, hboth _ x⟩, hboth _, rfl,
    by simp [State.faultLow, rstNAssert, State.reset, PerSide.both], rfl, rfl⟩
  · change abandonUpstream s.link.upstream = .closed
    rw [h]
    rfl
  · simp [rstNAssert, State.reset, Window.disabled]
  · simp [rstNAssert, State.reset, WatchEntry.disabled]
  · cases x <;> simp [rstNAssert, State.reset, State.headRec, PerSide.both, PerSide.get, HeadRecord.reset]
  · cases x <;> rfl
  · simp [rstNAssert, State.reset, Framer.reset]

/-! ## The first slots after RST_N -/

/-- Outside CONFIGURED every slot carries ALL_OFF (R133, R138). -/
theorem sendSlot_of_not_configured {s : State} (k : Fin 8) (h : s.configured = false) : sendSlot k s = sendAllOff s :=
  if_pos (by simp [h])

theorem beforeWord_configured (part : SlotPart) (s : State) : (s.beforeWord part).configured = s.configured := by
  obtain ⟨_, _, _, _, _, _, hshape⟩ := beforeWord_shape part s
  rw [hshape]
  rfl

/-- The word of the slot that ends is latched by the preamplifiers that its destination names, and no other event of a
slot start changes a drive level (R126, R128). -/
theorem beforeWord_drives (part : SlotPart) (s : State) (x : Side) :
    (s.beforeWord part).drives.get x =
      if destNames s.framer.lbds x then latchWord s.framer.lbda (s.drives.get x) else s.drives.get x := by
  obtain ⟨_, _, _, _, hshape⟩ := eventsTaken_shape part s
  unfold State.beforeWord
  rw [hshape]
  cases x <;> rfl

/-- A slot start outside CONFIGURED sends ALL_OFF in the slot that comes; the word of the slot before is latched. -/
theorem slotStart_allOff {part : SlotPart} {s : State} (hpart : part ≠ .event) (hc : s.configured = false) :
    (slotStart part s).framer.slot = some s.slotToCome ∧ (slotStart part s).framer.lbda = allOffWord ∧
      (slotStart part s).framer.lbds = destBoth ∧ (slotStart part s).rst = s.rst ∧
      (slotStart part s).configured = false ∧
      ∀ x, (slotStart part s).drives.get x =
        if destNames s.framer.lbds x then latchWord s.framer.lbda (s.drives.get x) else s.drives.get x := by
  have hbefore : (s.beforeWord part).configured = false := (beforeWord_configured part s).trans hc
  obtain ⟨_, _, _, _, _, _, hshape⟩ := beforeWord_shape part s
  rw [slotStart_eq_sendSlot part s hpart, sendSlot_of_not_configured _ hbefore]
  refine ⟨rfl, rfl, rfl, ?_, hbefore, beforeWord_drives part s⟩
  rw [hshape]
  rfl

/-- ALL_OFF turns every head's laser off (R128). -/
theorem latchWord_allOff (drive : Vector Nat 12) : latchWord allOffWord drive = Vector.replicate 12 0 := by
  have hlevel : bitField allOffWord 14 2 ≠ 1 := by decide
  have hoff : bitField allOffWord 14 2 = 2 := by decide
  rw [latchWord, if_neg hlevel, if_pos hoff]

/-- Settles O5: no word stands on the bus after RST_N, so slot 0 latches nothing, and slot 1 latches its ALL_OFF. -/
theorem releaseStartsFrameAllOff : Obligations.ReleaseStartsFrameAllOff := by
  refine ⟨fun _ => rfl, ?_⟩
  intro s t u v w first second hfirst hsecond ht hu hv hw
  obtain rfl := effect_eq_of_exec ht
  obtain rfl := effect_eq_of_exec hu
  have hv : v = slotStart first (rstNRelease (rstNAssert s)) := effect_eq_of_exec hv
  obtain ⟨hslot, hword, hdest, hrst, hc, hdrives⟩ :=
    slotStart_allOff (s := rstNRelease (rstNAssert s)) hfirst rfl
  rw [← hv] at hslot hword hdest hrst hc hdrives
  have hw : w = slotStart second v := by
    rw [effect_eq_of_exec hw]
    exact if_neg (by rw [hrst]; exact Bool.false_ne_true)
  obtain ⟨hslot', -, -, -, -, hdrives'⟩ := slotStart_allOff hsecond hc
  rw [← hw] at hslot' hdrives'
  have hnext : v.slotToCome = 1 := by rw [State.slotToCome, hslot]; rfl
  refine ⟨hslot, by rw [State.lbfs, hslot]; rfl, by rw [hword]; rfl, hdest, ?_, by rw [hslot', hnext],
    by rw [State.lbfs, hslot', hnext]; rfl, fun x h => ?_⟩
  · have hquiet : ∀ x, ¬destNames 0 x = true := fun x => by cases x <;> decide
    exact PerSide.ext_get fun x => (hdrives x).trans (if_neg (hquiet x))
  · have hnamed : destNames v.framer.lbds x = true := by rw [hdest]; cases x <;> rfl
    rw [hdrives', if_pos hnamed, hword, latchWord_allOff]
    simp

end Sys2Proof.Machine
end

section
/-!
PROOFS. The layouts: the bits and fields of a word, the header and the report records read back from the words that
spell them, and the decoding of windows and watch entries (R21, R24, R172–R175).
-/

namespace Sys2Proof.Machine

/-! ## Bits and fields -/

theorem getLsbD_eq_decide (w : Word) (n : Nat) : w.getLsbD n = decide (w.toNat / 2 ^ n % 2 = 1) := by
  rw [← BitVec.testBit_toNat, Nat.testBit_eq_decide_div_mod_eq]

theorem bitAt_eq_getLsbD (w : Word) (n : Nat) : bitAt w n = w.getLsbD n := by
  rw [getLsbD_eq_decide]
  rfl

/-- A field of a word built from a number is the number's. -/
theorem bitField_ofNat {n : Nat} (hn : n < 65536) (low width : Nat) :
    bitField (BitVec.ofNat 16 n) low width = n / 2 ^ low % 2 ^ width := by
  rw [bitField, BitVec.toNat_ofNat, Nat.mod_eq_of_lt hn]

theorem flagOf_ofNat {n : Nat} (hn : n < 65536) (k : Nat) :
    flagOf (BitVec.ofNat 16 n) k = decide (n / 2 ^ k % 2 = 1) := by
  rw [flagOf, getLsbD_eq_decide, BitVec.toNat_ofNat, Nat.mod_eq_of_lt hn]

theorem bitOf_le (b : Bool) : bitOf b ≤ 1 := by cases b <;> decide

/-- A flag that a layout spells reads back. -/
theorem decide_eq_of_bitOf {b : Bool} {n : Nat} (hn : n = bitOf b) : decide (n = 1) = b := by
  subst hn
  cases b <;> rfl

theorem bitOf_bitAt (w : Word) (n : Nat) : bitOf (bitAt w n) = w.toNat / 2 ^ n % 2 := by
  have hbit := Nat.mod_two_eq_zero_or_one (w.toNat / 2 ^ n)
  unfold bitAt bitField bitOf
  simp only [Nat.pow_one, decide_eq_true_eq]
  split <;> omega

/-! ## Headers (R173) -/

theorem decodeHeader_encodeHeader (h : Header) : decodeHeader (encodeHeader h) = h := by
  obtain ⟨read, toA, toB, kept, addr⟩ := h
  have hread := bitOf_le read
  have hA := bitOf_le toA
  have hB := bitOf_le toB
  have hkept := kept.isLt
  have haddr := addr.isLt
  unfold decodeHeader encodeHeader bitAt
  simp only [bitField_ofNat (show bitOf read * 2 ^ 15 + bitOf toB * 2 ^ 14 + bitOf toA * 2 ^ 13 + kept.toNat * 2 ^ 7
    + addr.toNat < 65536 by omega), Header.mk.injEq]
  refine ⟨decide_eq_of_bitOf (by omega), decide_eq_of_bitOf (by omega), decide_eq_of_bitOf (by omega), ?_, ?_⟩
  · apply BitVec.eq_of_toNat_eq
    rw [BitVec.toNat_ofNat]
    omega
  · apply BitVec.eq_of_toNat_eq
    rw [BitVec.toNat_ofNat]
    omega

theorem encodeHeader_decodeHeader (w : Word) : encodeHeader (decodeHeader w) = w := by
  have hw := w.isLt
  apply BitVec.eq_of_toNat_eq
  unfold encodeHeader decodeHeader
  simp only [bitOf_bitAt, bitField, BitVec.toNat_ofNat]
  omega

/-! ## Report records (R174) -/

theorem sideOfBit_sideBit (x : Side) {n : Nat} (hn : n = sideBit x) : sideOfBit (decide (n = 1)) = x := by
  subst hn
  cases x <;> rfl

theorem outcomeOfCode_code (o : EpisodeOutcome) : outcomeOfCode o.code = some o := by cases o <;> rfl

theorem kind_ofCode_code (k : EventKind) : EventKind.ofCode k.code = some k := by cases k <;> rfl

theorem headOfField_val (h : Fin 12) : headOfField h.val = some h := dif_pos h.isLt

theorem dispositionOfCode_code (d : TraceDisposition) :
    dispositionOfCode (decide (d.directionBit = 1)) d.code = some d := by
  cases d with
  | write d => cases d <;> rfl
  | read => rfl

theorem sideBit_le (x : Side) : sideBit x ≤ 1 := by cases x <;> decide

theorem outcome_code_le (o : EpisodeOutcome) : o.code ≤ 6 := by cases o <;> decide

theorem kind_code_le (k : EventKind) : 1 ≤ k.code ∧ k.code ≤ 15 := by cases k <;> decide

theorem disposition_code_le (d : TraceDisposition) : d.code ≤ 4 ∧ d.directionBit ≤ 1 := by
  cases d with
  | write d => cases d <;> decide
  | read => decide

/-- A number read from eight bits is the number. -/
theorem ofNat_eq_of_toNat {k : Nat} {v : BitVec k} {n : Nat} (hn : n = v.toNat) : BitVec.ofNat k n = v := by
  subst hn
  simp

theorem assembleReport_episode (x : Side) (number : BitVec 8) (head : Fin 12) (o : EpisodeOutcome) (r : EpisodeRecord)
    (rest : List Word) (hfits : (Report.episode x number head o r).fits) :
    assembleReport ((Report.episode x number head o r).words ++ rest) = some (.episode x number head o r, rest) := by
  obtain ⟨intervals, peak, duration, early, lenient, reduced, overlap⟩ := r
  obtain ⟨hintervals, hpeak, hduration⟩ : intervals ≤ 255 ∧ peak ≤ 1023 ∧ duration ≤ 65535 := hfits
  have hx := sideBit_le x
  have ho := outcome_code_le o
  have hh := head.isLt
  have hn := number.isLt
  have h3 := bitOf_le early
  have h2 := bitOf_le lenient
  have h1 := bitOf_le reduced
  have h0 := bitOf_le overlap
  obtain ⟨w1, hw1⟩ : ∃ w1, w1 = 1 * 2 ^ 14 + sideBit x * 2 ^ 13 + o.code * 2 ^ 10 + head.val * 2 ^ 6 +
    bitOf early * 2 ^ 3 + bitOf lenient * 2 ^ 2 + bitOf reduced * 2 ^ 1 + bitOf overlap := ⟨_, rfl⟩
  obtain ⟨w2, hw2⟩ : ∃ w2, w2 = number.toNat * 2 ^ 8 + intervals % 2 ^ 8 := ⟨_, rfl⟩
  have hwords : (Report.episode x number head o ⟨intervals, peak, duration, early, lenient, reduced, overlap⟩).words =
      [BitVec.ofNat 16 w1, BitVec.ofNat 16 w2, BitVec.ofNat 16 (peak % 2 ^ 10), BitVec.ofNat 16 duration] := by
    rw [hw1, hw2]
    rfl
  have hlt1 : w1 < 65536 := by omega
  have hlt2 : w2 < 65536 := by omega
  have hlt3 : peak % 2 ^ 10 < 65536 := by omega
  have htype : w1 / 2 ^ 14 % 2 ^ 2 = 1 := by omega
  have houtcome : w1 / 2 ^ 10 % 2 ^ 3 = o.code := by omega
  have hhead : w1 / 2 ^ 6 % 2 ^ 4 = head.val := by omega
  have hside : w1 / 2 ^ 13 % 2 = sideBit x := by omega
  have hearly : w1 / 2 ^ 3 % 2 = bitOf early := by omega
  have hlenient : w1 / 2 ^ 2 % 2 = bitOf lenient := by omega
  have hreduced : w1 / 2 ^ 1 % 2 = bitOf reduced := by omega
  have hoverlap : w1 / 2 ^ 0 % 2 = bitOf overlap := by omega
  have hnumber : w2 / 2 ^ 8 % 2 ^ 8 = number.toNat := by omega
  have hcount : w2 / 2 ^ 0 % 2 ^ 8 = intervals := by omega
  have hpeak' : peak % 2 ^ 10 / 2 ^ 0 % 2 ^ 10 = peak := by omega
  have hduration' : (BitVec.ofNat 16 duration).toNat = duration := by
    rw [BitVec.toNat_ofNat]
    omega
  simp only [hwords, List.cons_append, List.nil_append, assembleReport, bitField_ofNat hlt1, flagOf_ofNat hlt1,
    bitField_ofNat hlt2, bitField_ofNat hlt3, htype,
    houtcome, hhead, outcomeOfCode_code, headOfField_val, sideOfBit_sideBit x hside, decide_eq_of_bitOf hearly,
    decide_eq_of_bitOf hlenient, decide_eq_of_bitOf hreduced, decide_eq_of_bitOf hoverlap, ofNat_eq_of_toNat hnumber,
    hcount, hpeak', hduration', if_true]

theorem assembleReport_event (p : Side) (kind : EventKind) (injected again masked : Bool) (number : BitVec 8)
    (rest : List Word) :
    assembleReport ((Report.event p kind injected again masked number).words ++ rest) =
      some (.event p kind injected again masked number, rest) := by
  have hp := sideBit_le p
  have hk := kind_code_le kind
  have hn := number.isLt
  have h8 := bitOf_le injected
  have h7 := bitOf_le again
  have h6 := bitOf_le masked
  simp only [Report.words, List.cons_append, List.nil_append]
  generalize hw1 : 2 * 2 ^ 14 + sideBit p * 2 ^ 13 + kind.code * 2 ^ 9 + bitOf injected * 2 ^ 8 + bitOf again * 2 ^ 7 +
    bitOf masked * 2 ^ 6 = w1
  generalize hw2 : number.toNat * 2 ^ 8 = w2
  have hlt1 : w1 < 65536 := by omega
  have hlt2 : w2 < 65536 := by omega
  have htype : w1 / 2 ^ 14 % 2 ^ 2 = 2 := by omega
  have hkind : w1 / 2 ^ 9 % 2 ^ 4 = kind.code := by omega
  have hside : w1 / 2 ^ 13 % 2 = sideBit p := by omega
  have hinjected : w1 / 2 ^ 8 % 2 = bitOf injected := by omega
  have hagain : w1 / 2 ^ 7 % 2 = bitOf again := by omega
  have hmasked : w1 / 2 ^ 6 % 2 = bitOf masked := by omega
  have hnumber : w2 / 2 ^ 8 % 2 ^ 8 = number.toNat := by omega
  simp only [assembleReport, bitField_ofNat hlt1, flagOf_ofNat hlt1, bitField_ofNat hlt2, htype, hkind,
    kind_ofCode_code, sideOfBit_sideBit p hside, decide_eq_of_bitOf hinjected, decide_eq_of_bitOf hagain,
    decide_eq_of_bitOf hmasked, ofNat_eq_of_toNat hnumber, OfNat.ofNat_ne_one, if_true, if_false]

theorem assembleReport_trace (entry : Fin 4) (p : Side) (addr : RegAddr) (d : TraceDisposition) (word : Word)
    (rest : List Word) :
    assembleReport ((Report.trace entry p addr d word).words ++ rest) = some (.trace entry p addr d word, rest) := by
  have he := entry.isLt
  have hp := sideBit_le p
  have ha := addr.isLt
  obtain ⟨hd, hdir⟩ := disposition_code_le d
  simp only [Report.words, List.cons_append, List.nil_append]
  generalize hw1 : 3 * 2 ^ 14 + entry.val * 2 ^ 12 + sideBit p * 2 ^ 11 + d.directionBit * 2 ^ 10 + addr.toNat = w1
  have hlt1 : w1 < 65536 := by omega
  have hlt2 : d.code < 65536 := by omega
  have htype : w1 / 2 ^ 14 % 2 ^ 2 = 3 := by omega
  have hentry : w1 / 2 ^ 12 % 2 ^ 2 = entry.val := by omega
  have hside : w1 / 2 ^ 11 % 2 = sideBit p := by omega
  have hdirection : w1 / 2 ^ 10 % 2 = d.directionBit := by omega
  have haddr : w1 / 2 ^ 0 % 2 ^ 7 = addr.toNat := by omega
  have hcode : d.code / 2 ^ 0 % 2 ^ 3 = d.code := by omega
  have hfin : Fin.ofNat 4 entry.val = entry := by simp
  simp only [assembleReport, bitField_ofNat hlt1, flagOf_ofNat hlt1, bitField_ofNat hlt2, htype, hentry, hfin,
    hdirection, hcode, dispositionOfCode_code, sideOfBit_sideBit p hside, ofNat_eq_of_toNat haddr,
    OfNat.ofNat_ne_one, if_true, if_false]
  rfl

/-- Settles O60. -/
theorem formatsReadBack : Obligations.FormatsReadBack := by
  refine ⟨decodeHeader_encodeHeader, encodeHeader_decodeHeader, fun r rest hfits => ?_, fun r => ?_⟩
  · cases r with
    | episode x number head o r => exact assembleReport_episode x number head o r rest hfits
    | event p kind injected again masked number => exact assembleReport_event p kind injected again masked number rest
    | trace entry p addr d word => exact assembleReport_trace entry p addr d word rest
  · cases r <;> rfl

/-! ## Windows and watch entries (R21, R172, R175) -/

theorem bitField_zero (w : Word) (width : Nat) : bitField w 0 width = w.toNat % 2 ^ width := by
  rw [bitField, Nat.pow_zero, Nat.div_one]

theorem addr_toNat (w : Word) : (BitVec.ofNat 7 (bitField w 0 7)).toNat = w.toNat % 128 := by
  rw [bitField_zero, BitVec.toNat_ofNat]
  omega

theorem decodeKind_isSome (n : Nat) : (decodeKind n).isSome = true ↔ n < 5 := by
  unfold decodeKind
  by_cases h : n < 5
  · have hcases : n = 0 ∨ n = 1 ∨ n = 2 ∨ n = 3 ∨ n = 4 := by omega
    rcases hcases with rfl | rfl | rfl | rfl | rfl <;> simp
  · have h0 : n ≠ 0 := by omega
    have h1 : n ≠ 1 := by omega
    have h2 : n ≠ 2 := by omega
    have h3 : n ≠ 3 := by omega
    have h4 : n ≠ 4 := by omega
    simp [h0, h1, h2, h3, h4]
    omega

theorem decodeDirection_isSome {n : Nat} (hn : n < 4) : (decodeDirection n).isSome = true ↔ n ≠ 3 := by
  have hcases : n = 0 ∨ n = 1 ∨ n = 2 ∨ n = 3 := by omega
  rcases hcases with rfl | rfl | rfl | rfl <;> decide

/-- A window that the loader enables (R21). -/
theorem decodeWindow_enabled (w1 w2 w3 w4 : Word) :
    (decodeWindow w1 w2 w3 w4).enabled = true ↔ w1.getLsbD 15 = true ∧ w1.toNat % 128 ≤ w2.toNat % 128 ∧
      (w1.getLsbD 14 = true ∨ w1.getLsbD 13 = true) ∧ w1.toNat / 2 ^ 10 % 8 < 5 := by
  have hkind := decodeKind_isSome (bitField w1 10 3)
  simp only [decodeWindow, Bool.and_eq_true, Bool.or_eq_true, decide_eq_true_eq, bitAt_eq_getLsbD, addr_toNat, hkind,
    and_assoc, or_comm]
  rfl

theorem decodeHeadBase_of_lt (b : Fin 12) : decodeHeadBase b.val = .base b := dif_pos b.isLt

theorem decodeHeadBase_of_le {n : Nat} (h : 12 ≤ n) : decodeHeadBase n = .selected := dif_neg (by omega)

theorem decodeExtractor_eq (w : Word) : decodeExtractor w = ⟨w.toNat / 16 % 16, w.toNat % 16 + 1⟩ := by
  rw [decodeExtractor, bitField_zero]
  rfl

/-- Settles O59. -/
theorem windowsAndWatchDecode : Obligations.WindowsAndWatchDecode := by
  refine ⟨fun w1 w2 w3 w4 => ?_, fun w1 w2 => ?_⟩
  · have hkind : ∀ {n k}, w1.toNat / 2 ^ 10 % 8 = n → decodeKind n = some k →
        (decodeWindow w1 w2 w3 w4).kind = k := by
      intro n k hn hk
      have hfield : bitField w1 10 3 = n := hn
      simp [decodeWindow, hfield, hk]
    refine ⟨decodeWindow_enabled w1 w2 w3 w4, bitAt_eq_getLsbD _ _, bitAt_eq_getLsbD _ _, bitAt_eq_getLsbD _ _,
      addr_toNat w1, addr_toNat w2, fun h => hkind h rfl, fun h => hkind h rfl, fun h => hkind h rfl,
      fun h => hkind h rfl, fun h => hkind h rfl, fun b hb => ?_, fun h => decodeHeadBase_of_le h,
      decodeExtractor_eq w3, decodeExtractor_eq w4⟩
    change decodeHeadBase (bitField w2 8 4) = .base b
    rw [show bitField w2 8 4 = b.val from hb, decodeHeadBase_of_lt]
  · have hdirection : ∀ {n d}, w2.toNat / 16 % 4 = n → decodeDirection n = some d →
        (decodeWatch w1 w2).direction = d := by
      intro n d hn hd
      have hfield : bitField w2 4 2 = n := hn
      simp [decodeWatch, hfield, hd]
    refine ⟨?_, bitAt_eq_getLsbD _ _, bitAt_eq_getLsbD _ _, addr_toNat w1, bitField_zero _ _,
      fun h => hdirection h rfl, fun h => hdirection h rfl, fun h => hdirection h rfl⟩
    have hsome := decodeDirection_isSome (n := bitField w2 4 2) (Nat.mod_lt _ (by decide))
    simp only [decodeWatch, Bool.and_eq_true, bitAt_eq_getLsbD, hsome]
    rfl

end Sys2Proof.Machine
end

section
/-!
PROOFS. The control link's transactions: opened and closed, reads answered or forwarded, and the emitter (R1–R3, R8,
R12–R17, R19).
-/

namespace Sys2Proof.Machine

/-! ## Opening and closing -/

/-- Settles O6. -/
theorem ulenFallOpensTransaction : Obligations.UlenFallOpensTransaction := by
  intro s hclosed
  have hclear : (!s.link.clear) = decide (s.link.emission ≠ [] ∨ s.link.buffer ≠ none) := by
    rw [Bool.eq_iff_iff, Bool.not_eq_true', ← Bool.not_eq_true, Link.clear_iff, decide_eq_true_eq, not_and_or]
  refine ⟨fun hrst => ?_, fun hrst => ?_⟩
  · change Host.Outcome.next (ulenFall s) = _
    rw [← hclear]
    simp [ulenFall, hclosed, hrst]
  · change Host.Outcome.next (ulenFall s) = _
    simp [ulenFall, hclosed, hrst]

/-- A rise of ULEN that receives no write closes the transaction and no more (R2, R16, R19). -/
theorem ulenRise_receiving_nothing {s : State} {ws : List Word} (hopen : s.link.upstream ≠ .closed)
    (hnone : s.link.upstream = .opened → receiveWrite ws = none) :
    ulenRise ws s = s.withLink { s.link with upstream := .closed, ulwt := false, ulda := none } := by
  unfold ulenRise
  split
  · rename_i hop
    rw [hnone hop, ite_self]
    rfl
  · rfl
  · rfl
  · exact absurd ‹_› hopen

/-- A write's words, header first, are received with their first 16 data words (R3, R5). -/
theorem receiveWrite_encodeHeader (toA toB : Bool) (kept : BitVec 6) (a : RegAddr) (data : List Word) :
    receiveWrite (encodeHeader ⟨false, toA, toB, kept, a⟩ :: data) =
      some ⟨toA, toB, kept, a, data.take 16, decide (16 < data.length)⟩ := by
  simp [receiveWrite, decodeHeader_encodeHeader]

/-- Settles O7. -/
theorem ulenRiseClosesTransaction : Obligations.UlenRiseClosesTransaction := by
  refine ⟨?_, ?_, ?_, ?_⟩
  · intro s toA toB kept a data hopen hwait
    change Host.Outcome.next (ulenRise _ s) = _
    simp [ulenRise, hopen, hwait, receiveWrite_encodeHeader]
  · intro s hopen
    exact congrArg _ (ulenRise_receiving_nothing (by rw [hopen]; simp) fun _ => rfl)
  · intro s r ws hread
    refine completes_of_effect ?_
    change ulenRise ws s = _ ∧ (ulenRise ws s).dlenLow = _
    rw [ulenRise_receiving_nothing (by rw [hread]; simp) (by rw [hread]; simp)]
    exact ⟨rfl, Bool.or_false _⟩
  · intro s ws hignored
    exact congrArg _ (ulenRise_receiving_nothing (by rw [hignored]; simp) (by rw [hignored]; simp))

/-! ## Reads -/

/-- The header of a read is answered by R13's table. -/
theorem readAnswered_iff (s : State) (toA toB : Bool) :
    readAnswered toA toB s.configured = true ↔
      (toA = false ∧ toB = false) ∨ (toA = true ∧ toB = true ∧ s.loader.config = .configured) := by
  cases toA <;> cases toB <;> simp [readAnswered, State.configured]

/-- Settles O8. -/
theorem readHeaderDecidesAnswer : Obligations.ReadHeaderDecidesAnswer := by
  refine ⟨fun s toA toB kept a hrst hopen hwait => ?_,
    fun s r hrst hread hphase => ⟨fun hempty hidle => ?_, fun hne => ?_⟩⟩
  · have heffect : exec (.readHeader (encodeHeader ⟨true, toA, toB, kept, a⟩)) s =
        .next (readHeader (encodeHeader ⟨true, toA, toB, kept, a⟩) s) := congrArg _ (unlessReset_of_rst_low _ hrst)
    have hguard : (s.link.upstream = .opened && !s.link.ulwt && true) = true := by simp [hopen, hwait]
    refine ⟨fun h => ?_, fun h => ?_⟩
    · rw [heffect, readHeader, decodeHeader_encodeHeader, if_pos hguard, if_pos ((readAnswered_iff s toA toB).mpr h)]
    · rw [heffect, readHeader, decodeHeader_encodeHeader, if_pos hguard, if_neg (mt (readAnswered_iff s toA toB).mp h)]
      have hlist : (!s.link.emission.isEmpty) = decide (s.link.emission ≠ []) := by
        rw [Bool.eq_iff_iff]
        simp
      rw [hlist]
  · refine ⟨forwardedReadStart s, congrArg _ (unlessReset_of_rst_low _ hrst), ?_⟩
    have heq : forwardedReadStart s = { s with link := { s.link with
        upstream := .reading { r with phase := .forwarded }
        dlda := [encodeHeader ⟨true, r.toA, r.toB, r.kept, r.addr⟩] } } := by
      simp [forwardedReadStart, hread, hphase, hempty, hidle, readHeaderWord]
    refine ⟨?_, heq⟩
    rw [heq]
    simp [State.dlenLow]
  · refine (congrArg _ (unlessReset_of_rst_low _ hrst)).trans ?_
    simp [forwardedReadStart, hread, hne]

/-- A single-target read in CONFIGURED has its words tested for its target (R14). -/
theorem readTested_of_target {s : State} {r : ReadTxn} {p : Side} (hc : s.loader.config = .configured)
    (hA : r.toA = decide (p = .a)) (hB : r.toB = decide (p = .b)) : s.readTested r = some p := by
  unfold State.readTested State.configured
  rw [hA, hB, hc]
  cases p <;> rfl

/-- Any other read's words are not tested (R15, R17). -/
theorem readTested_eq_none {s : State} {r : ReadTxn} (h : s.loader.config ≠ .configured ∨ r.toA = r.toB) :
    s.readTested r = none := by
  unfold State.readTested State.configured
  rcases h with h | h
  · simp [h]
  · rw [h]
    cases r.toB <;> simp

/-- Settles O10. -/
theorem rawAndUnforwardedReadWords : Obligations.RawAndUnforwardedReadWords := by
  refine ⟨fun s r returned hrst hread hphase hraw => ?_, fun s r hrst hread hphase => ?_⟩
  · refine (congrArg _ (unlessReset_of_rst_low _ hrst)).trans ?_
    simp [readWord, hread, hphase, readTested_eq_none hraw, handUpstream]
  · refine (congrArg _ (unlessReset_of_rst_low _ hrst)).trans ?_
    simp [readAnswerFfff, hread, hphase, handUpstream]

/-! ## The substitution point (R14, R24, R159) -/

/-- A replaced field reads bit by bit: inside the field the value's bits, outside the word's (R24). -/
theorem Extractor.getLsbD_replace (x : Extractor) (w : Word) (v : Nat) {n : Nat} (hn : n < 16) :
    (x.replace w v).getLsbD n =
      if x.low ≤ n ∧ n < x.low + x.effectiveWidth then v.testBit (n - x.low) else w.getLsbD n := by
  have hones : (BitVec.ofNat 16 ((2 ^ x.effectiveWidth - 1) * 2 ^ x.low)).getLsbD n =
      decide (x.low ≤ n ∧ n < x.low + x.effectiveWidth) := by
    rw [BitVec.getLsbD_ofNat, Nat.testBit_mul_two_pow, Nat.testBit_two_pow_sub_one]
    by_cases hlow : x.low ≤ n
    · simp only [hn, hlow, decide_true, Bool.true_and, true_and, decide_eq_decide]
      omega
    · simp [hlow]
  have hvalue : (BitVec.ofNat 16 (v * 2 ^ x.low)).getLsbD n = (decide (x.low ≤ n) && v.testBit (n - x.low)) := by
    rw [BitVec.getLsbD_ofNat, Nat.testBit_mul_two_pow]
    simp [hn]
  unfold Extractor.replace
  dsimp only
  rw [BitVec.getLsbD_or, BitVec.getLsbD_and, BitVec.getLsbD_and, BitVec.getLsbD_not, hones, hvalue]
  by_cases hfield : x.low ≤ n ∧ n < x.low + x.effectiveWidth
  · simp [hfield, hn]
  · simp [hfield, hn]

/-- The bits of a merged code in a field of its width (R159). -/
theorem mergedField_testBit {code width k : Nat} (hk : k < width) :
    (mergedField code width).testBit k = if width = 1 then decide (code ≠ 0) else code.testBit k := by
  unfold mergedField
  split
  · rename_i hone
    obtain rfl : k = 0 := by omega
    by_cases hcode : code = 0 <;> simp [hcode]
  · rw [Nat.testBit_mod_two_pow]
    simp [hk]

/-- Settles O9. -/
theorem readWordSubstitutes : Obligations.ReadWordSubstitutes := by
  intro s p r returned hrst hc hread hphase hA hB
  refine ⟨substitute p r.addr returned s, ?_, ?_, ?_, ?_⟩
  · refine (congrArg _ (unlessReset_of_rst_low _ hrst)).trans ?_
    simp [readWord, hread, hphase, readTested_of_target hc hA hB, handUpstream]
  · intro e he
    simp [substitute, he]
  · intro hfree i hi hkind
    dsimp only
    intro n hn
    simp only [substitute, hfree, hi, hkind, if_true]
    rw [Extractor.getLsbD_replace _ _ _ hn]
    split
    · rename_i hfield
      rw [mergedField_testBit (by omega)]
    · rfl
  · intro hfree hother
    unfold substitute
    rw [hfree]
    split
    · cases ‹(none : Option HeldEntry) = some _›
    · split
      · rfl
      · rename_i i hi
        exact if_neg (hother i hi)

/-! ## The emitter -/

/-- A link that is settled keeps ULWT only while something is left (R2, R12). -/
theorem settleUlwt_eq (s : State) :
    settleUlwt s = s.withLink { s.link with ulwt := s.link.ulwt && !s.link.clear } := by
  unfold settleUlwt
  cases hclear : s.link.clear <;> simp [State.withLink]

/-- Settles O14. -/
theorem emitterSendsFromTheHead : Obligations.EmitterSendsFromTheHead := by
  intro s t rest hrst hlist
  refine ⟨fun hhigh => ?_, fun r hread hphase => ?_, fun hsending => ?_⟩ <;>
    refine (congrArg _ (unlessReset_of_rst_low _ hrst)).trans ?_
  · simp [emitterSend, hlist, hhigh, txnHeader]
  · have hlow : s.dlenLow = true := by simp [State.dlenLow, hread, hphase]
    simp [emitterSend, hlist, hlow]
  · simp [transactionSent, hsending, hlist, settleUlwt_eq, Link.clear, txnHeader, State.withLink]

end Sys2Proof.Machine
end

section
/-!
PROOFS. CONTROL words (R26, R27): the arm accepted or refused, the episode ended or changed, and the channels that no
CONTROL word moves (R73–R76, R88–R90, R151, R152).
-/

namespace Sys2Proof.Machine

/-! ## The three checks of an arm (R73) -/

/-- A valid, enabled and calibrated head passes. -/
theorem checkArm_of_good {s : State} {x : Side} {h : Fin 16} {g : Fin 12} (hg : g.val = h.val)
    (henabled : (s.headRec x g).image.enabled = true) (hthreshold : (s.headRec x g).threshold ≠ none)
    (hoperating : (s.headRec x g).operating ≠ none) : checkArm x h s = .inr g := by
  have hvalid : h.val < 12 := hg ▸ g.isLt
  obtain rfl : (⟨h.val, hvalid⟩ : Fin 12) = g := Fin.ext hg.symm
  simp [checkArm, hvalid, henabled, hthreshold, hoperating]

/-- `k` is the event of the first check that head `h` of `x` fails: BAD_HEAD, HEAD_DISABLED, NO_CALIBRATION. -/
def FirstFailing (s : State) (x : Side) (h : Fin 16) (k : EventKind) : Prop :=
  (12 ≤ h.val ∧ k = .badHead) ∨
    (∃ g : Fin 12, g.val = h.val ∧ (s.headRec x g).image.enabled = false ∧ k = .headDisabled) ∨
    (∃ g : Fin 12, g.val = h.val ∧ (s.headRec x g).image.enabled = true ∧
      ((s.headRec x g).threshold = none ∨ (s.headRec x g).operating = none) ∧ k = .noCalibration)

theorem FirstFailing.checkArm {s : State} {x : Side} {h : Fin 16} {k : EventKind} (hfails : FirstFailing s x h k) :
    checkArm x h s = .inl k := by
  rcases hfails with ⟨hbad, rfl⟩ | ⟨g, hg, hdisabled, rfl⟩ | ⟨g, hg, henabled, hmissing, rfl⟩
  · exact dif_neg (by omega)
  · have hvalid : h.val < 12 := hg ▸ g.isLt
    obtain rfl : (⟨h.val, hvalid⟩ : Fin 12) = g := Fin.ext hg.symm
    simp [Machine.checkArm, hvalid, hdisabled]
  · have hvalid : h.val < 12 := hg ▸ g.isLt
    obtain rfl : (⟨h.val, hvalid⟩ : Fin 12) = g := Fin.ext hg.symm
    simp [Machine.checkArm, hvalid, henabled, hmissing]

/-- An accepted arm (R73). -/
theorem takeArm_of_good {s : State} {x : Side} {h : Fin 16} {g : Fin 12} (hcheck : checkArm x h s = .inr g) :
    takeArm x h s = { s with
      chan := s.chan.set x ((s.chan.get x).armed g)
      engine := { s.engine with place := s.engine.place.set x (some .arm) } } := by
  unfold takeArm
  rw [hcheck]
  exact postRequest_arm x _

/-- A refused arm (R74). -/
theorem takeArm_of_failing {s : State} {x : Side} {h : Fin 16} {k : EventKind} (hcheck : checkArm x h s = .inl k) :
    takeArm x h s = raiseEvent x k false { s with chan := s.chan.set x { s.chan.get x with state := .faulted } } := by
  unfold takeArm
  rw [hcheck]
  exact (raiseEvent_modChan x k false x (fun c => { c with state := .faulted }) (fun _ => rfl) s).symm

/-! ## The effect by the channel's state -/

theorem inEpisode_eq_false {s : State} {x : Side} {d : ChanState} (hstate : (s.chan.get x).state = d)
    (hd : d.inEpisode = false) : s.inEpisode x = false := by
  rw [State.inEpisode, hstate, hd]

/-- In IDLE only an ARM acts (R76). -/
theorem deliverEffect_of_idle {s : State} {x : Side} (hidle : (s.chan.get x).state = .idle) (e : ControlEffect)
    (h : Fin 16) : deliverEffect x e h s = if e = .arm then takeArm x h s else s := by
  have hepisode : s.inEpisode x = false := inEpisode_eq_false hidle rfl
  unfold deliverEffect
  rw [if_neg (by simp [hepisode]), if_pos hidle]
  cases e <;> rfl

/-- In FAULTED an ARM is checked again, and a DISARM or a SWITCH leads to IDLE (R75). -/
theorem deliverEffect_of_faulted {s : State} {x : Side} (hfaulted : (s.chan.get x).state = .faulted)
    (e : ControlEffect) (h : Fin 16) :
    deliverEffect x e h s =
      match e with
      | .arm => recheckArm x h s
      | .rearm => s
      | .disarm => s.modChan x fun c => { c with state := .idle }
      | .switch => s.modChan x fun c => { c with state := .idle } := by
  have hepisode : s.inEpisode x = false := inEpisode_eq_false hfaulted rfl
  have hout : ¬s.inEpisode x = true := by simp [hepisode]
  have hbusy : ¬(s.chan.get x).state = .idle := by simp [hfaulted]
  refine ((if_neg hout).trans ((if_neg hbusy).trans (if_pos hfaulted))).trans ?_
  cases e <;> rfl

/-- In FROZEN nothing acts (R152). -/
theorem deliverEffect_of_frozen {s : State} {x : Side} (hfrozen : (s.chan.get x).state = .frozen) (e : ControlEffect)
    (h : Fin 16) : deliverEffect x e h s = s := by
  have hepisode : s.inEpisode x = false := inEpisode_eq_false hfrozen rfl
  unfold deliverEffect
  rw [if_neg (by simp [hepisode]), if_neg (by simp [hfrozen]), if_neg (by simp [hfrozen])]

/-- A word whose arm field is 0 clears the arm (R26). -/
theorem writtenArm_of_eq_zero {w : Window} {v : Word} (hv : w.ext2.value v = 0) : writtenArm w v = false := by
  simp [writtenArm, hv]

/-! ## A CONTROL word in one equation -/

/-- The state in which the effect of a CONTROL word is delivered: the word is forwarded and the shadow set
(R26, R27). -/
def State.afterControl (s : State) (p : Side) (kept : BitVec 6) (a : RegAddr) (w : Word) (h : Fin 16)
    (arm : ShadowArm) : State :=
  { s with
    link := s.link.forwardedWord p kept a w
    shadow := s.shadow.set p ⟨some h, arm⟩ }

section

variable {s : State} {p : Side} {kept : BitVec 6} {a : RegAddr} {w : Word} {i h : Fin 16}

/-- A word with its arm set: an ARM or a REARM. -/
theorem writeTaken_armSet (hwrite : OneWordWrite s p kept a w) (hmatch : ControlMatch s p a i)
    (hhead : h.val = min ((s.windows[i.val]).ext1.value w) 15) (harm : (s.windows[i.val]).ext2.value w ≠ 0) :
    exec .writeTaken s = .next (traceWord p a (.write .forward) w
      (deliverEffect p (classify (s.shadow.get p) h true) h (s.afterControl p kept a w h .set))) :=
  writeTaken_control (h := h) (b := true) (e := classify (s.shadow.get p) h true) hwrite hmatch
    (writtenHead_eq_of_val hhead) (writtenArm_of_ne_zero harm) rfl

/-- A word with its arm clear: a DISARM or a SWITCH. -/
theorem writeTaken_armClear (hwrite : OneWordWrite s p kept a w) (hmatch : ControlMatch s p a i)
    (hhead : h.val = min ((s.windows[i.val]).ext1.value w) 15) (harm : (s.windows[i.val]).ext2.value w = 0) :
    exec .writeTaken s = .next (traceWord p a (.write .forward) w
      (deliverEffect p (if (s.shadow.get p).head = some h then .disarm else .switch) h
        (s.afterControl p kept a w h .clear))) := by
  have heffect : classify (s.shadow.get p) h false =
      if (s.shadow.get p).head = some h then .disarm else .switch := by
    split
    · exact classify_disarm ‹_›
    · exact classify_switch ‹_›
  exact writeTaken_control (h := h) (b := false) hwrite hmatch (writtenHead_eq_of_val hhead)
    (writtenArm_of_eq_zero harm) heffect

end

/-! ## Arms at a channel in IDLE -/

/-- Settles O17. -/
theorem armAcceptedFromIdle : Obligations.ArmAcceptedFromIdle := by
  intro s p kept a w i h hwrite hmatch hidle hhead harm hnew henabled hthreshold hoperating
  have hmin : (Fin.castLE (m := 16) (by decide) h).val = min ((s.windows[i.val]).ext1.value w) 15 := by
    simp only [hhead, Fin.val_castLE]
    omega
  have heffect : classify (s.shadow.get p) (Fin.castLE (by decide) h) true = .arm :=
    classify_arm fun ⟨hset, hsame⟩ => hnew ⟨hset, by rw [hsame]; rfl⟩
  have hgood : checkArm p (Fin.castLE (by decide) h) (s.afterControl p kept a w (Fin.castLE (by decide) h) .set) =
      .inr h := checkArm_of_good rfl henabled hthreshold hoperating
  rw [writeTaken_armSet hwrite hmatch hmin harm, heffect, deliverEffect_of_idle (by exact hidle), if_pos rfl,
    takeArm_of_good hgood]
  rfl

/-- Settles O18. -/
theorem armRefusedFromIdle : Obligations.ArmRefusedFromIdle := by
  intro s p kept a w i h k hwrite hmatch hidle hhead harm hnew hfails
  have hfails : checkArm p h (s.afterControl p kept a w h .set) = .inl k := FirstFailing.checkArm hfails
  rw [writeTaken_armSet hwrite hmatch hhead harm, classify_arm hnew, deliverEffect_of_idle (by exact hidle), if_pos rfl,
    takeArm_of_failing hfails]
  rfl

/-! ## Words outside the episodes -/

/-- Settles O22. -/
theorem faultedChannelOnControlWords : Obligations.FaultedChannelOnControlWords := by
  intro s p kept a w i h hwrite hmatch hhead
  have hkept : s.shadow.get p = ⟨some h, .set⟩ →
      s.afterControl p kept a w h .set = { s with link := s.link.forwardedWord p kept a w } := by
    intro hshadow
    rw [State.afterControl, set_eq_self_of_get_eq hshadow]
  have hrearm : s.shadow.get p = ⟨some h, .set⟩ → classify (s.shadow.get p) h true = .rearm := by
    intro hshadow
    rw [hshadow, classify_rearm]
  refine ⟨fun hstate => ⟨fun harm => ?_, fun harm hshadow => ?_, fun harm hnew => ⟨fun k hk => ?_, fun g hg => ?_⟩⟩,
    fun hstate => ?_, fun hstate => ⟨fun harm => ?_, fun harm hshadow => ?_⟩⟩
  · rw [writeTaken_armClear hwrite hmatch hhead harm, deliverEffect_of_faulted (by exact hstate)]
    by_cases hsame : (s.shadow.get p).head = some h
    · rw [if_pos hsame]
      rfl
    · rw [if_neg hsame]
      rfl
  · rw [writeTaken_armSet hwrite hmatch hhead harm, deliverEffect_of_faulted (by exact hstate), hrearm hshadow,
      hkept hshadow]
  · have hk : checkArm p h (s.afterControl p kept a w h .set) = .inl k := hk
    rw [writeTaken_armSet hwrite hmatch hhead harm, deliverEffect_of_faulted (by exact hstate), classify_arm hnew]
    dsimp only
    rw [recheckArm, hk]
    rfl
  · have hg : checkArm p h (s.afterControl p kept a w h .set) = .inr g := hg
    rw [writeTaken_armSet hwrite hmatch hhead harm, deliverEffect_of_faulted (by exact hstate), classify_arm hnew]
    dsimp only
    rw [recheckArm, hg]
    rfl
  · by_cases harm : (s.windows[i.val]).ext2.value w = 0
    · rw [writeTaken_armClear hwrite hmatch hhead harm, deliverEffect_of_frozen (by exact hstate), if_pos harm]
      rfl
    · rw [writeTaken_armSet hwrite hmatch hhead harm, deliverEffect_of_frozen (by exact hstate), if_neg harm]
      rfl
  · rw [writeTaken_armClear hwrite hmatch hhead harm, deliverEffect_of_idle (by exact hstate)]
    by_cases hsame : (s.shadow.get p).head = some h
    · rw [if_pos hsame]
      rfl
    · rw [if_neg hsame]
      rfl
  · rw [writeTaken_armSet hwrite hmatch hhead harm, deliverEffect_of_idle (by exact hstate), hrearm hshadow,
      hkept hshadow]
    rfl

end Sys2Proof.Machine
end

section
/-!
PROOFS. Leaving the episode states and the release of the held writes (R42–R44, R92–R94).
-/

namespace Sys2Proof.Machine

/-! ## Releases (R42–R44) -/

theorem queueReport_setHeld (l : List HeldEntry) (r : Report) (s : State) :
    queueReport r (s.setHeld l) = (queueReport r s).setHeld l := by
  unfold queueReport
  rw [State.setHeld_reports]
  by_cases hroom : s.reports.records.length < Config.reportCapacity
  · rw [if_pos hroom, if_pos hroom]
    rfl
  · rw [if_neg hroom, if_neg hroom]
    by_cases hoverflow : r.isOverflow = true
    · rw [if_pos hoverflow, if_pos hoverflow]
    · rw [if_neg hoverflow, if_neg hoverflow]
      rfl

theorem raiseEvent_setHeld (l : List HeldEntry) (p : Side) (k : EventKind) (i : Bool) (s : State) :
    raiseEvent p k i (s.setHeld l) = (raiseEvent p k i s).setHeld l :=
  queueReport_setHeld l _ (s.setKinds p (addKind k (s.events.kinds.get p)))

/-- A capture does not see the held-write queue. -/
theorem captureCode_setHeld (l : List HeldEntry) (x : Side) (h : Fin 12) (n : CodeName) (v : Nat) (s : State) :
    captureCode x h n v (s.setHeld l) = (captureCode x h n v s).setHeld l := by
  have hrecord : (s.setHeld l).headRec x h = s.headRec x h := rfl
  rcases Nat.lt_or_ge (s.headRec x h).image.ceiling v with hlt | hle
  · rw [captureCode_of_ceiling_lt n hlt, captureCode_of_ceiling_lt (s := s.setHeld l) n hlt]
    exact raiseEvent_setHeld l x .setpointClamp false (s.setHead x h _)
  · rw [captureCode_of_le_ceiling n hle, captureCode_of_le_ceiling (s := s.setHeld l) n hle]
    rfl

/-- A release is the captures in queue order, the other side's entries left on the queue, and the transactions at the
tail of the emission list. -/
theorem releaseHeld_eq (p : Side) (s : State) :
    releaseHeld p s = State.withLink
      { s.link with emission := s.link.emission ++ (s.held.filter fun e => e.side = p).map HeldEntry.txn }
      ((s.held.filter fun e => e.side = p).foldl captureEntry (s.setHeld (s.held.filter fun e => e.side ≠ p))) := by
  unfold releaseHeld State.setEmission State.withLink
  simp only [captureEntries_link, State.setHeld_link]

/-- A release that finds no entry does nothing. -/
theorem releaseHeld_of_none {s : State} {p : Side} (hnone : ∀ e ∈ s.held, e.side ≠ p) : releaseHeld p s = s := by
  have hmine : (s.held.filter fun e => e.side = p) = [] := List.filter_eq_nil_iff.mpr (by simpa using hnone)
  have hothers : (s.held.filter fun e => e.side ≠ p) = s.held := List.filter_eq_self.mpr (by simpa using hnone)
  rw [releaseHeld_eq, hmine, hothers]
  simp [State.withLink, State.setHeld]

/-- The transaction of a released entry of `p` (R44). -/
theorem txn_of_side {e : HeldEntry} {p : Side} (hside : e.side = p) :
    e.txn = ⟨decide (p = .a), decide (p = .b), 0, e.reg, [e.value]⟩ := by
  rw [HeldEntry.txn, hside]

/-- Settles O28. -/
theorem releaseTakesEntriesInOrder : Obligations.ReleaseTakesEntriesInOrder := by
  refine ⟨fun s p => releaseHeld_of_none, ?_⟩
  intro s p front back e hheld hfront hside
  have hmine : (s.held.filter fun f => f.side = p) = e :: back.filter fun f => f.side = p := by
    have hnone : (front.filter fun f => f.side = p) = [] := List.filter_eq_nil_iff.mpr (by simpa using hfront)
    rw [hheld, List.filter_append, hnone, List.nil_append, List.filter_cons_of_pos (by simpa using hside)]
  have hmine' : ((front ++ back).filter fun f => f.side = p) = back.filter fun f => f.side = p := by
    have hnone : (front.filter fun f => f.side = p) = [] := List.filter_eq_nil_iff.mpr (by simpa using hfront)
    rw [List.filter_append, hnone, List.nil_append]
  have hothers : (s.held.filter fun f => f.side ≠ p) = (front ++ back).filter fun f => f.side ≠ p := by
    rw [hheld, List.filter_append, List.filter_append, List.filter_cons_of_neg (by simpa using hside)]
  have hcapture : captureEntry (s.setHeld ((front ++ back).filter fun f => f.side ≠ p)) e =
      (captureCode p e.head (s.windows[e.window.val]).kind.codeName
        ((s.windows[e.window.val]).ext1.value e.value) s).setHeld ((front ++ back).filter fun f => f.side ≠ p) := by
    rw [← captureCode_setHeld, ← hside]
    rfl
  change _ = releaseHeld p (captureCode _ _ _ _ (State.withLink _ (s.setHeld (front ++ back))))
  rw [captureCode_withLink, captureCode_setHeld, releaseHeld_withLink, releaseHeld_eq, releaseHeld_eq, hmine, hothers,
    List.foldl_cons, hcapture]
  simp only [State.setHeld_held, hmine', withLink_withLink, List.map_cons, txn_of_side hside, List.append_assoc,
    List.cons_append, List.nil_append]
  rfl

/-! ## Leaving (R92–R94) -/

theorem leaveEpisode_framer (x : Side) (d : ChanState) (o : EpisodeOutcome) (s : State) :
    (leaveEpisode x d o s).framer = { s.framer with urgent := s.framer.urgent.set x true } := by
  unfold leaveEpisode
  simp only [releaseHeld_framer, queueReport_framer]
  rfl

theorem leaveEpisode_engine (x : Side) (d : ChanState) (o : EpisodeOutcome) (s : State) :
    (leaveEpisode x d o s).engine = { s.engine with place := s.engine.place.set x none } := by
  unfold leaveEpisode
  simp only [releaseHeld_engine, queueReport_engine]
  rfl

/-- Captures of one side's entries leave the other side's records. -/
theorem captureEntries_heads_other {p : Side} (l : List HeldEntry) (hl : ∀ e ∈ l, e.side = p) (s : State) :
    (l.foldl captureEntry s).heads.get p.other = s.heads.get p.other := by
  induction l generalizing s with
  | nil => rfl
  | cons e l ih =>
    have hcapture : ∀ u : State, (captureEntry u e).heads.get p.other = u.heads.get p.other := by
      intro u
      have hset : ∀ r, (u.setHead e.side e.head r).heads.get p.other = u.heads.get p.other := by
        intro r
        rw [hl e List.mem_cons_self]
        exact PerSide.get_set_other _ _ _
      unfold captureEntry captureCode
      dsimp only
      split
      · exact hset _
      · rw [raiseEvent_heads]
        exact hset _
    rw [List.foldl_cons, ih (fun f hf => hl f (List.mem_cons_of_mem _ hf)), hcapture]

theorem releaseHeld_heads_other (p : Side) (s : State) : (releaseHeld p s).heads.get p.other = s.heads.get p.other := by
  rw [releaseHeld_eq]
  exact captureEntries_heads_other _ (fun e he => by simpa using (List.mem_filter.mp he).2) _

theorem leaveEpisode_heads_other (x : Side) (d : ChanState) (o : EpisodeOutcome) (s : State) :
    (leaveEpisode x d o s).heads.get x.other = s.heads.get x.other := by
  unfold leaveEpisode
  rw [releaseHeld_heads_other, queueReport_heads]
  rfl

/-- Captures queue records at the tail alone. -/
theorem captureEntries_reports (l : List HeldEntry) (s : State) : ReportsAppended s (l.foldl captureEntry s) := by
  have hall : ∀ (l : List HeldEntry) (t : State), ReportsAppended s t → ReportsAppended s (l.foldl captureEntry t) := by
    intro l
    induction l with
    | nil => exact fun _ h => h
    | cons e l ih => exact fun t h => ih _ ((reportsAppended_recordActs s).capture _ _ _ _ _ h)
  exact hall l s (reportsAppended_refl s)

theorem releaseHeld_reports (p : Side) (s : State) :
    ∃ more, (releaseHeld p s).reports.records = s.reports.records ++ more := by
  rw [releaseHeld_eq]
  exact (captureEntries_reports _ (s.setHeld _)).1

/-- The EPISODE record stands ahead of what the release raises (R92, R94). -/
theorem leaveEpisode_records (x : Side) (d : ChanState) (o : EpisodeOutcome) {s : State}
    (hroom : s.reports.records.length < 16) : ∃ more, (leaveEpisode x d o s).reports.records =
      s.reports.records ++ [(s.chan.get x).report x o] ++ more := by
  unfold leaveEpisode
  dsimp only
  obtain ⟨more, hmore⟩ := releaseHeld_reports x (queueReport ((s.chan.get x).report x o)
    (State.setPlace x none (State.setUrgent x true (s.setChan x ((s.chan.get x).left d)))))
  refine ⟨more, ?_⟩
  rw [hmore, queueReport_records]
  exact congrArg (· ++ more) (if_pos hroom)

/-- Settles O29. -/
theorem leavingIsOneAct : Obligations.LeavingIsOneAct := by
  intro s x dest o hdest
  have hchan : (leaveEpisode x dest o s).chan.get x = (s.chan.get x).left dest := by
    rw [leaveEpisode_chan_eq, PerSide.get_set_same]
  have hwriting : dest ≠ .writing := by rcases hdest with rfl | rfl | rfl <;> simp
  refine ⟨leaveEpisode_chan_eq x dest o s, ?_, ?_, leaveEpisode_framer x dest o s, leaveEpisode_engine x dest o s,
    leaveEpisode_held_eq x dest o s, ?_, fun hroom => leaveEpisode_records x dest o hroom,
    leaveEpisode_heads_other x dest o s, leaveEpisode_shadow x dest o s, leaveEpisode_windows x dest o s,
    leaveEpisode_gates x dest o s, leaveEpisode_freeze x dest o s, leaveEpisode_thermal x dest o s,
    leaveEpisode_loader x dest o s⟩
  · rw [hchan]
    rfl
  · rw [State.gateOut, hchan]
    simp [Channel.left, hwriting]
  · rw [leaveEpisode_link_eq, List.map_congr_left fun e he => txn_of_side (p := x) ?_]
    simpa using (List.mem_filter.mp he).2

end Sys2Proof.Machine
end

section
/-!
PROOFS. CONTROL words at a channel in an episode: the episode ended, changed to another head, or left by a freeze wait
(R26, R27, R88–R90, R151), and what every CONTROL word leaves alone.
-/

namespace Sys2Proof.Machine

/-! ## The ends of an episode -/

/-- A CONTROL word that ends an episode ends it to IDLE, or under a freeze wait to FROZEN (R151). -/
theorem leaveByControl_eq_of_freeze {s u : State} (hfreeze : u.freeze = s.freeze) (x : Side) (o : EpisodeOutcome) :
    leaveByControl x o u = if s.freeze.wait.get x then
        { leaveEpisode x .idle o u with
          freeze := { s.freeze with
            wait := s.freeze.wait.set x false, frozenEpisode := s.freeze.frozenEpisode.set x false }
          chan := (leaveEpisode x .idle o u).chan.set x
            { (leaveEpisode x .idle o u).chan.get x with state := .frozen } }
      else leaveEpisode x .idle o u := by
  rw [leaveByControl_eq, hfreeze]

theorem recomputes_iff (d : ChanState) : d.recomputes = true ↔ d = .writing ∨ d = .holding := by
  cases d <;> simp [ChanState.recomputes]

/-- The state in which a head change leaves the episode: HEAD_CHANGE_ACTIVE is raised from WRITING and HOLDING (R89). -/
def State.headChanging (x : Side) (s : State) : State :=
  if (s.chan.get x).state = .writing ∨ (s.chan.get x).state = .holding then raiseEvent x .headChangeActive false s
  else s

/-- The state in which a DISARM leaves the episode: DISARM_WHILE_WRITING is raised from WRITING (R88). -/
def State.disarming (x : Side) (s : State) : State :=
  if (s.chan.get x).state = .writing then raiseEvent x .disarmWhileWriting false s else s

theorem headChanging_freeze (x : Side) (s : State) : (s.headChanging x).freeze = s.freeze := by
  unfold State.headChanging
  split <;> simp

theorem disarming_freeze (x : Side) (s : State) : (s.disarming x).freeze = s.freeze := by
  unfold State.disarming
  split <;> simp

theorem headChanging_chan (x : Side) (s : State) : (s.headChanging x).chan = s.chan := by
  unfold State.headChanging
  split <;> simp

theorem leaveByHeadChange_eq (x : Side) (s : State) :
    leaveByHeadChange x s = leaveByControl x .abortHeadChange (s.headChanging x) := by
  unfold leaveByHeadChange State.headChanging
  simp only [recomputes_iff]

theorem disarmEpisode_eq (x : Side) (s : State) :
    disarmEpisode x s = leaveByControl x
      (if (s.chan.get x).state = .writing then .abortDisarm
        else if (s.chan.get x).state = .holding then .complete else .unused) (s.disarming x) := by
  unfold disarmEpisode State.disarming
  cases hstate : (s.chan.get x).state <;> rfl

/-- In an episode state the four effects (R88–R91). -/
theorem deliverEffect_of_inEpisode {s : State} {x : Side} (hepisode : s.inEpisode x = true) (e : ControlEffect)
    (h : Fin 16) :
    deliverEffect x e h s =
      match e with
      | .rearm => s
      | .arm => headChangeArm x h s
      | .disarm => disarmEpisode x s
      | .switch => leaveByHeadChange x s := by
  refine (if_pos hepisode).trans ?_
  cases e <;> rfl

/-- Settles O20. -/
theorem disarmAndSwitchEndEpisode : Obligations.DisarmAndSwitchEndEpisode := by
  intro s p kept a w i h hwrite hmatch hepisode hhead harm
  refine ⟨fun hsame => ?_, fun hother => ?_⟩
  · rw [writeTaken_armClear hwrite hmatch hhead harm, if_pos hsame, deliverEffect_of_inEpisode (by exact hepisode)]
    dsimp only
    rw [disarmEpisode_eq, leaveByControl_eq_of_freeze (disarming_freeze p _)]
    rfl
  · rw [writeTaken_armClear hwrite hmatch hhead harm, if_neg hother, deliverEffect_of_inEpisode (by exact hepisode)]
    dsimp only
    rw [leaveByHeadChange_eq, leaveByControl_eq_of_freeze (headChanging_freeze p _)]
    rfl

/-! ## An arm of another head -/

/-- Calibrated: enabled and with both codes present, as R73's checks ask of a valid head. -/
def HeadRecord.armable (r : HeadRecord) : Prop := r.image.enabled = true ∧ r.threshold ≠ none ∧ r.operating ≠ none

/-- Captures do not make a head fail the checks (R52, R53). -/
theorem armable_recordActs (x : Side) (g : Fin 12) : RecordActs fun t => (t.headRec x g).armable :=
  recordActs_of_record x g fun r n v ⟨henabled, hthreshold, hoperating⟩ => by
    cases n
    · exact ⟨henabled, by simp [HeadRecord.withCode], hoperating⟩
    · exact ⟨henabled, hthreshold, by simp [HeadRecord.withCode]⟩

/-- The state in which the new head's checks are made: the old episode has ended (R90). -/
def State.headChanged (x : Side) (s : State) : State := leaveEpisode x .idle .abortHeadChange (s.headChanging x)

theorem headChanged_chan (x : Side) (s : State) :
    (s.headChanged x).chan = s.chan.set x ((s.chan.get x).left .idle) := by
  rw [State.headChanged, leaveEpisode_chan_eq, headChanging_chan]

theorem headChanged_engine (x : Side) (s : State) :
    (s.headChanged x).engine = { s.engine with place := s.engine.place.set x none } := by
  have hengine : (s.headChanging x).engine = s.engine := by
    unfold State.headChanging
    split <;> simp
  rw [State.headChanged, leaveEpisode_engine, hengine]

theorem headChanged_shadow (x : Side) (s : State) : (s.headChanged x).shadow = s.shadow := by
  unfold State.headChanged State.headChanging
  split <;> simp

theorem headChanged_gates (x : Side) (s : State) : (s.headChanged x).gates = s.gates := by
  unfold State.headChanged State.headChanging
  split <;> simp

theorem headChanged_held (x : Side) (s : State) :
    (s.headChanged x).held = s.held.filter fun e => e.side ≠ x := by
  rw [State.headChanged, leaveEpisode_held_eq]
  unfold State.headChanging
  split <;> simp

theorem headChanged_armable {x : Side} {g : Fin 12} {s : State} (h : (s.headRec x g).armable) :
    ((s.headChanged x).headRec x g).armable := by
  refine (armable_recordActs x g).leave x _ _ ?_
  unfold State.headChanging
  split
  · exact (armable_recordActs x g).shared.raise x _ _ h
  · exact h

/-- The reports of a head change: HEAD_CHANGE_ACTIVE, the EPISODE record, and then what the release raises. -/
theorem headChanged_records {x : Side} {s : State} (hroom : s.reports.records.length ≤ 14) : ∃ more,
    (s.headChanged x).reports.records = s.reports.records ++
      (if (s.chan.get x).state = .writing ∨ (s.chan.get x).state = .holding then
        [Report.event x .headChangeActive false ((s.events.kinds.get x).contains .headChangeActive)
          (isMasked s.events.mask .headChangeActive) (s.chan.get x).episode]
      else []) ++ [(s.chan.get x).report x .abortHeadChange] ++ more := by
  have hraised : (s.headChanging x).reports.records = s.reports.records ++
      (if (s.chan.get x).state = .writing ∨ (s.chan.get x).state = .holding then
        [Report.event x .headChangeActive false ((s.events.kinds.get x).contains .headChangeActive)
          (isMasked s.events.mask .headChangeActive) (s.chan.get x).episode]
      else []) := by
    unfold State.headChanging
    split
    · rw [raiseEvent_records, if_pos (by omega)]
    · simp
  obtain ⟨more, hmore⟩ := leaveEpisode_records x .idle .abortHeadChange (s := s.headChanging x)
    (by rw [hraised]; split <;> simp <;> omega)
  exact ⟨more, by rw [State.headChanged, hmore, hraised, headChanging_chan]⟩

/-- A trace queues at the tail. -/
theorem traceWord_records (p : Side) (a : RegAddr) (d : TraceDisposition) (w : Word) (s : State) :
    ∃ more, (traceWord p a d w s).reports.records = s.reports.records ++ more := by
  unfold traceWord
  split
  · exact ((reportsAppended_refl s).queueReport _).1
  · exact ⟨[], by simp⟩

/-- The channel that an accepted arm of another head leaves (R73, R90). -/
def Channel.rearmed (c : Channel) (g : Fin 12) : Channel :=
  { c with
    state := .pending, head := g, episode := c.episode + 1, live := none, staged := none
    firstInterval := true, kickFlag := false, leadTimer := .stopped, kickTimer := .stopped, dwell := none
    record := ⟨0, 0, 0, false, false, false, false⟩ }

/-- An arm of another head under a freeze wait starts nothing (R151); otherwise the channel, then in IDLE, takes it. -/
theorem headChangeArm_eq (x : Side) (h : Fin 16) (s : State) :
    headChangeArm x h s = if s.freeze.wait.get x then
        { s.headChanged x with
          freeze := { s.freeze with
            wait := s.freeze.wait.set x false, frozenEpisode := s.freeze.frozenEpisode.set x false }
          chan := (s.headChanged x).chan.set x { (s.headChanged x).chan.get x with state := .frozen } }
      else takeArm x h (s.headChanged x) := by
  have hleft : leaveEpisode x .idle .abortHeadChange (s.headChanging x) = s.headChanged x := rfl
  rw [headChangeArm, leaveByHeadChange_eq, leaveByControl_eq_of_freeze (headChanging_freeze x s), hleft]
  split
  · rfl
  · rfl

/-- The state when another head has been armed (R73, R90). -/
def State.headArmed (x : Side) (g : Fin 12) (s : State) : State :=
  { s.headChanged x with
    chan := s.chan.set x ((s.chan.get x).rearmed g)
    engine := { s.engine with place := s.engine.place.set x (some .arm) } }

theorem takeArm_headChanged {s : State} {x : Side} {h : Fin 16} {g : Fin 12} (hg : g.val = h.val)
    (hgood : ((s.headChanged x).headRec x g).armable) : takeArm x h (s.headChanged x) = s.headArmed x g := by
  obtain ⟨henabled, hthreshold, hoperating⟩ := hgood
  rw [takeArm_of_good (checkArm_of_good hg henabled hthreshold hoperating), headChanged_engine, headChanged_chan,
    PerSide.get_set_same, PerSide.set_set, PerSide.set_set]
  rfl

/-- Settles O21: the claims of the arm are those of `headChangeArm` in the state where the word has been forwarded. -/
theorem headChangeArmBeginsNewEpisode : Obligations.HeadChangeArmBeginsNewEpisode := by
  intro s p kept a w i h hwrite hmatch hepisode hhead harm hnew
  have hdeliver : exec .writeTaken s = .next (traceWord p a (.write .forward) w
      (headChangeArm p h (s.afterControl p kept a w h .set))) := by
    rw [writeTaken_armSet hwrite hmatch hhead harm, classify_arm fun hsame => hnew hsame.2,
      deliverEffect_of_inEpisode (by exact hepisode)]
  have hwait : (s.afterControl p kept a w h .set).freeze = s.freeze := rfl
  rw [hdeliver, headChangeArm_eq, hwait]
  refine ⟨fun hw => ?_, fun hw => ⟨fun k hfails => ?_, fun g hg henabled hthreshold hoperating => ?_⟩,
    fun g hg hw henabled hthreshold hoperating hroom => ?_⟩
  · rw [if_pos hw]
    rfl
  · have hfails : FirstFailing (State.headChanged p (s.afterControl p kept a w h .set)) p h k := hfails
    rw [if_neg (by simp [hw]), takeArm_of_failing hfails.checkArm]
    rfl
  · have hgood : ((State.headChanged p (s.afterControl p kept a w h .set)).headRec p g).armable :=
      ⟨henabled, hthreshold, hoperating⟩
    rw [if_neg (by simp [hw]), takeArm_headChanged hg hgood]
    rfl
  · have hgood : ((s.afterControl p kept a w h .set).headRec p g).armable := ⟨henabled, hthreshold, hoperating⟩
    rw [headChangeArm_eq, hwait, if_neg (by simp [hw]), takeArm_headChanged hg (headChanged_armable hgood)] at hdeliver
    obtain ⟨more, hmore⟩ := headChanged_records (x := p) (s := s.afterControl p kept a w h .set) hroom
    obtain ⟨trace, htrace⟩ := traceWord_records p a (.write .forward) w
      (State.headArmed p g (s.afterControl p kept a w h .set))
    refine ⟨_, hdeliver, ?_, ?_, ?_, ?_, ?_, ⟨more ++ trace, ?_⟩, ?_, ?_, ?_⟩
    · rw [traceWord_chan]
      exact PerSide.get_set_same _ _ _
    · rw [traceWord_shadow]
      change (State.headChanged p _).shadow.get p = _
      rw [headChanged_shadow]
      exact PerSide.get_set_same _ _ _
    · rw [traceWord_engine]
      exact PerSide.get_set_same _ _ _
    · rw [traceWord_framer]
      change (State.headChanged p _).framer.urgent.get p = _
      rw [State.headChanged, leaveEpisode_framer]
      exact PerSide.get_set_same _ _ _
    · rw [traceWord_held]
      change (State.headChanged p _).held = _
      rw [headChanged_held]
      rfl
    · rw [htrace, ← List.append_assoc]
      exact congrArg (· ++ trace) hmore
    · rw [traceWord_chan]
      exact PerSide.get_set_other _ _ _
    · rw [traceWord_engine]
      rfl
    · rw [traceWord_gates]
      change (State.headChanged p _).gates = _
      rw [headChanged_gates]
      rfl

/-! ## What every CONTROL word leaves alone -/

/-- From `s` to `t` nothing of the other side of `p` has changed, of the framer at most `p`'s urgent OFF flag, and the
emission list has grown by one-word transactions for `p` with kept bits 0. -/
structure OtherSideKept (p : Side) (s t : State) : Prop where
  chan : t.chan.get p.other = s.chan.get p.other
  heads : t.heads.get p.other = s.heads.get p.other
  held : t.held.filter (fun e => e.side ≠ p) = s.held.filter (fun e => e.side ≠ p)
  place : t.engine.place.get p.other = s.engine.place.get p.other
  framer : t.framer = { s.framer with urgent := s.framer.urgent.set p (t.framer.urgent.get p) }
  wait : t.freeze.wait.get p.other = s.freeze.wait.get p.other
  emission : ∃ released, t.link.emission = s.link.emission ++ released ∧
    ∀ x ∈ released, x.toA = decide (p = .a) ∧ x.toB = decide (p = .b) ∧ x.kept = 0 ∧ x.words.length = 1

namespace OtherSideKept

variable {p : Side} {s t u : State}

theorem refl (p : Side) (s : State) : OtherSideKept p s s where
  chan := rfl
  heads := rfl
  held := rfl
  place := rfl
  framer := by simp
  wait := rfl
  emission := ⟨[], by simp, by simp⟩

/-- A further change of the channel, the request place and the freeze flags of `p` alone, and of fields that the claim
does not read. -/
theorem step (h : OtherSideKept p s t) (hchan : u.chan.get p.other = t.chan.get p.other) (hheads : u.heads = t.heads)
    (hheld : u.held = t.held) (hplace : u.engine.place.get p.other = t.engine.place.get p.other)
    (hframer : u.framer = t.framer) (hwait : u.freeze.wait.get p.other = t.freeze.wait.get p.other)
    (hlink : u.link = t.link) : OtherSideKept p s u where
  chan := hchan.trans h.chan
  heads := by rw [hheads, h.heads]
  held := by rw [hheld, h.held]
  place := hplace.trans h.place
  framer := by rw [hframer, ← h.framer]
  wait := hwait.trans h.wait
  emission := by rw [hlink]; exact h.emission

theorem raise (h : OtherSideKept p s t) (k : EventKind) : OtherSideKept p s (raiseEvent p k false t) :=
  h.step (by simp) (by simp) (by simp) (by simp) (by simp) (by simp) (by simp)

theorem leave (h : OtherSideKept p s t) (d : ChanState) (o : EpisodeOutcome) :
    OtherSideKept p s (leaveEpisode p d o t) where
  chan := by rw [leaveEpisode_chan_eq, PerSide.get_set_other, h.chan]
  heads := by rw [leaveEpisode_heads_other, h.heads]
  held := by simpa [leaveEpisode_held_eq, List.filter_filter] using h.held
  place := by rw [leaveEpisode_place_eq, PerSide.get_set_other, h.place]
  framer := by rw [leaveEpisode_framer, h.framer, PerSide.set_set, PerSide.get_set_same]
  wait := by rw [leaveEpisode_freeze, h.wait]
  emission := by
    obtain ⟨released, hemission, hall⟩ := h.emission
    refine ⟨released ++ (t.held.filter fun e => e.side = p).map HeldEntry.txn, ?_, fun x hx => ?_⟩
    · rw [leaveEpisode_link_eq, hemission, List.append_assoc]
    · rcases List.mem_append.mp hx with hx | hx
      · exact hall x hx
      · obtain ⟨e, he, rfl⟩ := List.mem_map.mp hx
        rw [txn_of_side (by simpa using (List.mem_filter.mp he).2)]
        exact ⟨rfl, rfl, rfl, rfl⟩

theorem leaveByControl (h : OtherSideKept p s t) (o : EpisodeOutcome) :
    OtherSideKept p s (leaveByControl p o t) := by
  have hleft := h.leave .idle o
  rw [leaveByControl_eq_of_freeze rfl]
  split
  · exact hleft.step (PerSide.get_set_other _ _ _) rfl rfl rfl rfl
      ((PerSide.get_set_other _ _ _).trans (by rw [leaveEpisode_freeze])) rfl
  · exact hleft

/-- Every effect of a CONTROL word is one of its own side (R27). -/
theorem deliverEffect (h : OtherSideKept p s t) (e : ControlEffect) (g : Fin 16) :
    OtherSideKept p s (deliverEffect p e g t) := by
  refine deliverEffect_keeps (fun k u hu => hu.raise k) (fun o u _ hu => hu.leaveByControl o) (fun g u _ hu => ?_)
    (fun u _ hu => ?_) (fun u _ hu => ?_) e h
  · exact hu.step (PerSide.get_set_other _ _ _) rfl rfl (PerSide.get_set_other _ _ _) rfl rfl rfl
  · exact hu.step (PerSide.get_set_other _ _ _) rfl rfl rfl rfl rfl rfl
  · exact hu.step (PerSide.get_set_other _ _ _) rfl rfl rfl rfl rfl rfl

end OtherSideKept

/-- Settles O16. -/
theorem controlWordSetsShadow : Obligations.ControlWordSetsShadow := by
  intro s p kept a w i hwrite hmatch
  obtain ⟨hrst, -⟩ := id hwrite
  have hexec := writeTaken_control hwrite hmatch (h := writtenHead (s.windows[i.val]) w)
    (b := writtenArm (s.windows[i.val]) w) rfl rfl rfl
  generalize hs1 : ({ s with
    link := s.link.forwardedWord p kept a w
    shadow := s.shadow.set p ⟨some (writtenHead (s.windows[i.val]) w),
      if writtenArm (s.windows[i.val]) w then .set else .clear⟩ } : State) = s1 at hexec
  have hown := (OtherSideKept.refl p s1).deliverEffect
    (classify (s.shadow.get p) (writtenHead (s.windows[i.val]) w) (writtenArm (s.windows[i.val]) w))
    (writtenHead (s.windows[i.val]) w)
  obtain ⟨released, hemission, hall⟩ := hown.emission
  refine ⟨_, hexec, ?_⟩
  simp only [traceWord_shadow, traceWord_link, traceWord_chan, traceWord_heads, traceWord_held, traceWord_engine,
    traceWord_framer, traceWord_earlyPolicy, traceWord_freeze, traceWord_events_mask, traceWord_rst,
    traceWord_windows, traceWord_gates, traceWord_thermal, traceWord_loader, traceWord_budget, traceWord_dwellLimit,
    traceWord_watch, traceWord_drives, deliverEffect_shadow, deliverEffect_link_buffer, deliverEffect_link_upstream,
    deliverEffect_engine_unit, deliverEffect_earlyPolicy, deliverEffect_freeze_mode, deliverEffect_freeze_active,
    deliverEffect_events_mask, deliverEffect_rst, deliverEffect_windows, deliverEffect_gates, deliverEffect_thermal,
    deliverEffect_loader, deliverEffect_budget, deliverEffect_dwellLimit, deliverEffect_watch, deliverEffect_drives,
    hown.chan, hown.heads, hown.held, hown.place, hown.wait]
  have hframer := hown.framer
  subst hs1
  refine ⟨?_, fun harm => ?_, fun harm => ?_, ⟨released, hemission, hall⟩, rfl, rfl, PerSide.get_set_other _ _ _, rfl,
    rfl, rfl, rfl, rfl, hframer, rfl, rfl, rfl, rfl, rfl, hrst, rfl, rfl, rfl, rfl, rfl, rfl, rfl, rfl⟩
  · rw [PerSide.get_set_same, ← writtenHead_val]
    rfl
  · rw [PerSide.get_set_same, writtenArm_of_ne_zero harm]
    rfl
  · rw [PerSide.get_set_same, writtenArm_of_eq_zero harm]
    rfl

end Sys2Proof.Machine
end

section
/-!
PROOFS. The words of the other windows and the link watch: values captured, passed, held, coalesced or dropped, fault
status cleared, faults injected, and traces (R23, R24, R28–R33, R37–R40, R160, R161, R166, R167).
-/

namespace Sys2Proof.Machine

/-! ## First matches (R23, R166) -/

/-- What it means that window `i` matches (R23). -/
def State.windowHits (s : State) (p : Side) (a : RegAddr) (i : Fin 16) : Prop :=
  (s.windows[i.val]).enabled = true ∧
    (match p with
      | .a => (s.windows[i.val]).memberA
      | .b => (s.windows[i.val]).memberB) = true ∧
    (s.windows[i.val]).first.toNat ≤ a.toNat ∧ a.toNat ≤ (s.windows[i.val]).last.toNat

theorem covers_iff (s : State) (p : Side) (a : RegAddr) (i : Fin 16) :
    (s.windows[i.val]).covers p a = true ↔ s.windowHits p a i := by
  cases p <;> simp [Window.covers, targets, State.windowHits, and_assoc]

theorem findWindow_eq_some_iff (s : State) (p : Side) (a : RegAddr) (i : Fin 16) :
    s.findWindow p a = some i ↔ s.windowHits p a i ∧ ∀ j : Fin 16, j < i → ¬s.windowHits p a j := by
  rw [State.findWindow, ← Fin.find?_eq_find?_finRange, Fin.find?_eq_some_iff, covers_iff]
  simp only [← Bool.not_eq_true, covers_iff]

theorem findWindow_eq_none_iff (s : State) (p : Side) (a : RegAddr) :
    s.findWindow p a = none ↔ ∀ i : Fin 16, ¬s.windowHits p a i := by
  rw [State.findWindow, ← Fin.find?_eq_find?_finRange, Fin.find?_eq_none_iff]
  simp only [← Bool.not_eq_true, covers_iff]

/-- Two addresses agree once their lowest bits are set aside, exactly when their quotients do. -/
theorem div_two_pow_eq_iff (a b : RegAddr) (k : Nat) :
    a.toNat / 2 ^ k = b.toNat / 2 ^ k ↔ ∀ n, k ≤ n → a.getLsbD n = b.getLsbD n := by
  constructor
  · intro h n hn
    have hbit := congrArg (fun v => v.testBit (n - k)) h
    simpa [Nat.testBit_div_two_pow, Nat.sub_add_cancel hn, BitVec.testBit_toNat] using hbit
  · intro h
    refine Nat.eq_of_testBit_eq fun i => ?_
    rw [Nat.testBit_div_two_pow, Nat.testBit_div_two_pow, BitVec.testBit_toNat, BitVec.testBit_toNat]
    exact h _ (Nat.le_add_left k i)

/-- What it means that watch entry `e` matches (R166). -/
def State.watchHits (s : State) (p : Side) (a : RegAddr) (reading : Prop) [Decidable reading] (e : Fin 4) : Prop :=
  (s.watch[e.val]).enabled = true ∧ targets (s.watch[e.val]).memberA (s.watch[e.val]).memberB p = true ∧
    ((s.watch[e.val]).direction = .both ∨ (s.watch[e.val]).direction = (if reading then .read else .write)) ∧
    ∀ n : Nat, (s.watch[e.val]).ignoreLow ≤ n → a.getLsbD n = (s.watch[e.val]).addr.getLsbD n

theorem watch_covers_iff (s : State) (p : Side) (a : RegAddr) (reading : Prop) [Decidable reading] (e : Fin 4) :
    (s.watch[e.val]).covers p a (decide reading) = true ↔ s.watchHits p a reading e := by
  simp only [WatchEntry.covers, State.watchHits, Bool.and_eq_true, Bool.or_eq_true, decide_eq_true_eq,
    div_two_pow_eq_iff, and_assoc]

/-- Settles O26. -/
theorem watchedWordLeavesTrace : Obligations.WatchedWordLeavesTrace := by
  intro s p a d w
  refine ⟨fun e hit hfirst => ?_, fun hnone => ?_⟩
  · have hfind : s.findWatch p a (d = .read) = some e := by
      rw [State.findWatch, ← Fin.find?_eq_find?_finRange, Fin.find?_eq_some_iff, watch_covers_iff]
      simp only [← Bool.not_eq_true, watch_covers_iff]
      exact ⟨hit, hfirst⟩
    rw [traceWord, hfind]
  · have hfind : s.findWatch p a (d = .read) = none := by
      rw [State.findWatch, ← Fin.find?_eq_find?_finRange, Fin.find?_eq_none_iff]
      simp only [← Bool.not_eq_true, watch_covers_iff]
      exact hnone
    rw [traceWord, hfind]

/-! ## Words that are forwarded -/

/-- A word that is forwarded acts as on the link that carries it, when its act does not read the link. -/
theorem writeTaken_forwarding {s : State} {p : Side} {kept : BitVec 6} {a : RegAddr} {w : Word} {f : State → State}
    (hwrite : OneWordWrite s p kept a w) (hlink : ∀ l t, f (State.withLink l t) = State.withLink l (f t))
    (hword : ∀ l, classifyWord p a w (State.withLink l s) = (f (State.withLink l s), .forward)) :
    exec .writeTaken s = .next (traceWord p a (.write .forward) w
      (f (State.withLink (s.link.forwardedWord p kept a w) s))) := by
  obtain ⟨-, -, hempty, -⟩ := id hwrite
  rw [writeTaken_oneWord_forwarded hwrite (hword { s.link with buffer := none }), hlink, hlink]
  simp only [withLink_link, hempty]
  rfl

/-- A value-window word is classified by its value (R28). -/
theorem classifyWord_value {s : State} {p : Side} {a : RegAddr} {i : Fin 16} {n : CodeName}
    (hmatch : ValueMatch s p a i n) (w : Word) :
    classifyWord p a w s = valueWord p i (s.windows[i.val]) a w s := by
  obtain ⟨hfind, hkind⟩ := hmatch
  unfold classifyWord
  rw [hfind]
  dsimp only
  rw [hkind]
  cases n <;> rfl

theorem ValueMatch.codeName {s : State} {p : Side} {a : RegAddr} {i : Fin 16} {n : CodeName}
    (hmatch : ValueMatch s p a i n) : (s.windows[i.val]).kind.codeName = n := by
  obtain ⟨-, hkind⟩ := hmatch
  rw [hkind]
  cases n <;> rfl

theorem ValueMatch.withLink {s : State} {p : Side} {a : RegAddr} {i : Fin 16} {n : CodeName}
    (hmatch : ValueMatch s p a i n) (l : Link) : ValueMatch (State.withLink l s) p a i n := hmatch

theorem classifyWord_faultStatus {s : State} {p : Side} {a : RegAddr} {i : Fin 16} (hfind : s.findWindow p a = some i)
    (hkind : (s.windows[i.val]).kind = .faultStatus) (w : Word) : classifyWord p a w s =
      (clearWord p ((s.windows[i.val]).ext1.value w) (s.windows[i.val]).ext1.effectiveWidth s, .forward) := by
  unfold classifyWord
  rw [hfind]
  dsimp only
  rw [hkind]

theorem classifyWord_faultInject {s : State} {p : Side} {a : RegAddr} {i : Fin 16} (hfind : s.findWindow p a = some i)
    (hkind : (s.windows[i.val]).kind = .faultInject) (w : Word) :
    classifyWord p a w s = (injectWord p ((s.windows[i.val]).ext1.value w) s, .forward) := by
  unfold classifyWord
  rw [hfind]
  dsimp only
  rw [hkind]

section

variable {s : State} {p : Side} {i : Fin 16} {win : Window} {a : RegAddr} {w : Word}

/-- A word whose head resolves is captured when it need not be held (R30, R31). -/
theorem valueWord_captured {h : Fin 12} (hhead : resolveHead win a (s.shadow.get p) = some h.val)
    (hopen : win.hold = false ∨ s.inEpisode p = false) :
    valueWord p i win a w s = (captureCode p h win.kind.codeName (win.ext1.value w) s, .forward) := by
  have hpass : ¬(win.hold && s.inEpisode p) = true := by
    rcases hopen with hfree | hidle
    · simp [hfree]
    · simp [hidle]
  rw [valueWord, hhead]
  dsimp only
  rw [dif_pos h.isLt, if_neg hpass]

/-- And offered to the held-write queue when it must be (R30). -/
theorem valueWord_offered {h : Fin 12} (hhead : resolveHead win a (s.shadow.get p) = some h.val)
    (hhold : win.hold = true) (hepisode : s.inEpisode p = true) :
    valueWord p i win a w s = offerHeld p i h a w s := by
  rw [valueWord, hhead]
  dsimp only
  rw [dif_pos h.isLt, if_pos (by rw [hhold, hepisode]; rfl)]

/-- A word whose head resolves to none passes (R29). -/
theorem valueWord_passed (hout : ∀ m, resolveHead win a (s.shadow.get p) = some m → 12 ≤ m) :
    valueWord p i win a w s = (s, .forward) := by
  unfold valueWord
  split
  · rfl
  · rename_i m hm
    rw [dif_neg (Nat.not_lt.mpr (hout m hm))]

end

/-- The field of a word has the effective width, and its bits are the word's from the lowest bit up (R24). -/
theorem extractor_value_bits (x : Extractor) (w : Word) :
    x.value w < 2 ^ x.effectiveWidth ∧
      ∀ n : Nat, n < x.effectiveWidth → (x.value w).testBit n = w.getLsbD (x.low + n) := by
  refine ⟨Nat.mod_lt _ (Nat.two_pow_pos _), fun n hn => ?_⟩
  rw [Extractor.value, bitField, Nat.testBit_mod_two_pow, Nat.testBit_div_two_pow, BitVec.testBit_toNat,
    Nat.add_comm n x.low]
  simp [hn]

/-- Settles O23. -/
theorem valueWordCapturedOrPassed : Obligations.ValueWordCapturedOrPassed := by
  refine ⟨fun s p kept a w i n hwrite hmatch => ⟨fun h hhead hopen => ?_, fun hout => ?_⟩,
    fun s p a => ⟨findWindow_eq_some_iff s p a, findWindow_eq_none_iff s p a⟩,
    fun x w hlow hpos hwidth => ⟨?_, extractor_value_bits x w⟩,
    fun win a sh => ⟨fun b hb _ => ?_, fun hsel => ⟨fun h hh => ?_, fun hh => ?_⟩⟩⟩
  · refine writeTaken_forwarding hwrite
      (f := captureCode p h n ((s.windows[i.val]).ext1.value w)) (fun l t => captureCode_withLink l _ _ _ _ t)
      fun l => ?_
    refine (classifyWord_value (hmatch.withLink l) w).trans
      ((valueWord_captured (s := State.withLink l s) hhead hopen).trans ?_)
    rw [hmatch.codeName]
  · exact writeTaken_forwarding hwrite (f := id) (fun _ _ => rfl) fun l =>
      (classifyWord_value (hmatch.withLink l) w).trans (valueWord_passed (s := State.withLink l s) hout)
  · unfold Extractor.effectiveWidth
    split <;> omega
  · rw [resolveHead, hb]
  · rw [resolveHead, hsel, hh]
    rfl
  · rw [resolveHead, hsel, hh]
    rfl

/-! ## Fault status and fault inject words -/

theorem ofCode_eq_none {v : Nat} (hv : v = 0 ∨ 15 < v) : EventKind.ofCode v = none := by
  unfold EventKind.ofCode
  rw [List.find?_eq_none]
  intro k _
  have hk := kind_code_le k
  simp only [decide_eq_true_eq]
  omega

/-- Settles O25. -/
theorem clearAndInjectWords : Obligations.ClearAndInjectWords := by
  intro s p kept a w i hwrite hfind
  refine ⟨fun hkind => ?_, fun hkind => ⟨fun k hk => ?_, fun hout => ?_⟩⟩
  · exact writeTaken_forwarding hwrite
      (f := clearWord p ((s.windows[i.val]).ext1.value w) (s.windows[i.val]).ext1.effectiveWidth) (fun _ _ => rfl)
      fun l => classifyWord_faultStatus (s := State.withLink l s) hfind hkind w
  · refine writeTaken_forwarding hwrite (f := raiseEvent p k true) (fun l t => raiseEvent_withLink l p k true t)
      fun l => ?_
    rw [classifyWord_faultInject (s := State.withLink l s) hfind hkind]
    change (injectWord p ((s.windows[i.val]).ext1.value w) _, _) = _
    rw [injectWord, hk, kind_ofCode_code]
  · refine writeTaken_forwarding hwrite (f := id) (fun _ _ => rfl) fun l => ?_
    rw [classifyWord_faultInject (s := State.withLink l s) hfind hkind]
    change (injectWord p ((s.windows[i.val]).ext1.value w) _, _) = _
    rw [injectWord, ofCode_eq_none hout]
    rfl

end Sys2Proof.Machine
end

section
/-!
PROOFS. Protected words and two-target words: what the held-write queue makes of them (R7, R30, R37–R40, R47).
-/

namespace Sys2Proof.Machine

/-! ## The offer (R37–R39) -/

section

variable {s : State} {p : Side} {i : Fin 16} {h : Fin 12} {a : RegAddr} {w : Word}

theorem offerHeld_new (hfree : s.heldFor p a = none) (hroom : s.held.length < 8) :
    offerHeld p i h a w s = (s.setHeld (s.held ++ [⟨p, a, w, i, h⟩]), .hold) := by
  rw [offerHeld, hfree]
  exact if_pos hroom

theorem offerHeld_coalesced {e : HeldEntry} (hfound : s.heldFor p a = some e) :
    offerHeld p i h a w s =
      (s.setHeld ((s.held.filter fun f => !f.hasKey p a) ++ [{ e with value := w }]), .coalesce) := by
  rw [offerHeld, hfound]

theorem offerHeld_full (hfree : s.heldFor p a = none) (hfull : 8 ≤ s.held.length) :
    offerHeld p i h a w s = (raiseEvent p .holdOverflow false s, .drop) := by
  rw [offerHeld, hfree]
  exact if_neg (Nat.not_lt.mpr hfull)

end

/-! ## The word's classification in a later state -/

section

variable {s t : State} {p : Side} {a : RegAddr} {i : Fin 16} {n : CodeName} {h : Fin 12}

/-- The windows, the shadow and the channels decide on a value-window word: to the held-write queue (R30). -/
theorem classifyWord_offered (hwindows : t.windows = s.windows) (hshadow : t.shadow = s.shadow)
    (hchan : t.chan = s.chan) (hmatch : ValueMatch s p a i n) (hhold : (s.windows[i.val]).hold = true)
    (hepisode : s.inEpisode p = true) (hhead : resolveHead (s.windows[i.val]) a (s.shadow.get p) = some h.val)
    (w : Word) : classifyWord p a w t = offerHeld p i h a w t := by
  have hmatch' : ValueMatch t p a i n := by
    unfold ValueMatch State.findWindow
    rw [hwindows]
    exact hmatch
  rw [classifyWord_value hmatch' w]
  simp only [hwindows]
  exact valueWord_offered (by rw [hshadow, hhead]) hhold (by rw [State.inEpisode, hchan]; exact hepisode)

/-- Or into the head table (R31). -/
theorem classifyWord_captured (hwindows : t.windows = s.windows) (hshadow : t.shadow = s.shadow)
    (hchan : t.chan = s.chan) (hmatch : ValueMatch s p a i n) (hidle : s.inEpisode p = false)
    (hhead : resolveHead (s.windows[i.val]) a (s.shadow.get p) = some h.val) (w : Word) :
    classifyWord p a w t = (captureCode p h n ((s.windows[i.val]).ext1.value w) t, .forward) := by
  have hmatch' : ValueMatch t p a i n := by
    unfold ValueMatch State.findWindow
    rw [hwindows]
    exact hmatch
  rw [classifyWord_value hmatch' w]
  simp only [hwindows]
  rw [valueWord_captured (by rw [hshadow, hhead]) (.inr (by rw [State.inEpisode, hchan]; exact hidle)),
    hmatch.codeName]

end

/-! ## Words that are not forwarded -/

/-- A word that is not forwarded acts as on the drained link, when its act does not read the link. -/
theorem writeTaken_keeping {s : State} {p : Side} {kept : BitVec 6} {a : RegAddr} {w : Word} {f : State → State}
    {d : Disposition} (hwrite : OneWordWrite s p kept a w) (hd : d ≠ .forward)
    (hlink : ∀ l t, f (State.withLink l t) = State.withLink l (f t))
    (hword : ∀ l, classifyWord p a w (State.withLink l s) = (f (State.withLink l s), d)) :
    exec .writeTaken s = .next (traceWord p a (.write d) w (f (State.withLink s.link.drained s))) := by
  rw [writeTaken_oneWord_kept hwrite hd (hword { s.link with buffer := none }) (by rw [hlink]; rfl), hlink, hlink]
  rfl

/-! ## Two-target words (R7, R40) -/

/-- A word whose act does not read the link is traced alike on every link (R167). -/
theorem processWord_withLink {s t : State} {l : Link} {p : Side} {a : RegAddr} {w : Word} {d : Disposition}
    (hword : classifyWord p a w (State.withLink l s) = (State.withLink l t, d)) :
    processWord p a w (State.withLink l s) = (State.withLink l (traceWord p a (.write d) w t), d) := by
  rw [processWord, hword, traceWord_withLink]

/-- What is left on the link when a taken write has been drained, or its word forwarded. -/
theorem settleUlwt_drained {s : State} (hempty : s.link.emission = []) (t : State) :
    settleUlwt (State.setEmission [] (State.withLink { s.link with buffer := none } t)) =
      State.withLink s.link.drained t := by
  rw [settleUlwt_of_clear ((Link.clear_iff _).mpr ⟨rfl, rfl⟩)]
  simp [State.withLink, State.setEmission, Link.drained, hempty]

theorem settleUlwt_forwarded (s t : State) (p : Side) (kept : BitVec 6) (a : RegAddr) (w : Word) :
    settleUlwt (State.setEmission [wordTxn p kept a w] (State.withLink { s.link with buffer := none } t)) =
      State.withLink (s.link.forwardedWord p kept a w) t := by
  unfold settleUlwt
  rw [if_neg (by simp)]
  rfl

/-- A two-target word that A's side keeps and that releases nothing goes to B alone, or to neither (R7, R9). -/
theorem processBlock_twoTarget {u uA uB : State} {kept : BitVec 6} {a : RegAddr} {w : Word} {dA dB : Disposition}
    (hempty : u.link.emission = []) (hA : processWord .a a w u = (uA, dA)) (hdA : dA ≠ .forward)
    (hB : processWord .b a w uA = (uB, dB)) (hreleased : uB.link.emission = []) :
    processBlock ⟨true, true, kept, a, [w], false⟩ a [w] u none =
      uB.setEmission (if dB = .forward then [wordTxn .b kept a w] else []) := by
  simp only [processBlock, processPosition, processTarget, setEmission_same u hempty, hA, hB, hdA, hreleased, hempty,
    if_true, decide_false, List.isEmpty_nil, List.nil_append]
  by_cases hdB : dB = .forward <;> simp [hdB, extendRun, wordTxn, State.setEmission]

theorem writeTaken_twoTarget {s : State} {kept : BitVec 6} {a : RegAddr} {w : Word} (hwrite : TwoTargetWrite s kept a w)
    {uA uB : State} {dA dB : Disposition}
    (hA : processWord .a a w (State.withLink { s.link with buffer := none } s) = (uA, dA)) (hdA : dA ≠ .forward)
    (hB : processWord .b a w uA = (uB, dB)) (hreleased : uB.link.emission = []) :
    exec .writeTaken s = .next (settleUlwt
      (uB.setEmission (if dB = .forward then [wordTxn .b kept a w] else []))) := by
  obtain ⟨hrst, hc, hempty, hbuffer⟩ := hwrite
  have hc : s.configured = true := by simp [State.configured, hc]
  have hexec : exec .writeTaken s = .next (writeTaken s) := congrArg _ (unlessReset_of_rst_low _ hrst)
  rw [hexec, writeTaken_of_buffered hbuffer hempty, if_neg (by simp), if_pos hc, processWrite,
    if_neg (by simp), processBlock_twoTarget (u := State.withLink { s.link with buffer := none } s) hempty hA hdA hB
      hreleased]

/-- Settles O24. -/
theorem protectedWordHeldCoalescedDropped : Obligations.ProtectedWordHeldCoalescedDropped := by
  refine ⟨fun s p kept a w i n h hwrite hmatch hhold hepisode hhead => ?_, ?_⟩
  · have hoffered : ∀ l, classifyWord p a w (State.withLink l s) = offerHeld p i h a w (State.withLink l s) :=
      fun l => classifyWord_offered (s := s) (t := State.withLink l s) rfl rfl rfl hmatch hhold hepisode hhead w
    refine ⟨fun hfree hroom => ?_, fun e hfound => ?_, fun hfree hfull => ?_⟩
    · exact writeTaken_keeping hwrite (d := .hold) (by simp) (f := State.setHeld (s.held ++ [⟨p, a, w, i, h⟩]))
        (fun _ _ => rfl)
        fun l => (hoffered l).trans (offerHeld_new (s := State.withLink l s) hfree hroom)
    · exact writeTaken_keeping hwrite (d := .coalesce) (by simp)
        (f := State.setHeld ((s.held.filter fun f => !f.hasKey p a) ++ [{ e with value := w }])) (fun _ _ => rfl)
        fun l => (hoffered l).trans (offerHeld_coalesced (s := State.withLink l s) hfound)
    · exact writeTaken_keeping hwrite (d := .drop) (by simp) (f := raiseEvent p .holdOverflow false)
        (fun l t => raiseEvent_withLink l _ _ _ t) fun l =>
          (hoffered l).trans (offerHeld_full (s := State.withLink l s) hfree hfull)
  · intro s kept a w i j n m g h hwrite hmatchA hholdA hepisodeA hheadA hfreeA hmatchB hholdB hheadB hfreeB
    obtain ⟨-, -, hempty, -⟩ := id hwrite
    have hroomA : s.held.length ≤ 7 → processWord .a a w (State.withLink { s.link with buffer := none } s) =
        (State.withLink { s.link with buffer := none }
          (traceWord .a a (.write .hold) w (s.setHeld (s.held ++ [⟨.a, a, w, i, g⟩]))), .hold) := by
      intro hroom
      exact processWord_withLink ((classifyWord_offered (s := s) (t := State.withLink { s.link with buffer := none } s)
        rfl rfl rfl hmatchA hholdA hepisodeA hheadA w).trans
        (offerHeld_new (s := State.withLink { s.link with buffer := none } s) hfreeA (Nat.lt_succ_of_le hroom)))
    generalize hsA : traceWord .a a (.write .hold) w (s.setHeld (s.held ++ [⟨.a, a, w, i, g⟩])) = sA at hroomA
    have hsA' : ∀ l, traceWord .a a (.write .hold) w { s with link := l, held := s.held ++ [⟨.a, a, w, i, g⟩] } =
        State.withLink l sA := by
      intro l
      rw [← hsA, ← traceWord_withLink]
      rfl
    have hwindows : sA.windows = s.windows := by rw [← hsA, traceWord_windows]; rfl
    have hshadow : sA.shadow = s.shadow := by rw [← hsA, traceWord_shadow]; rfl
    have hchan : sA.chan = s.chan := by rw [← hsA, traceWord_chan]; rfl
    have hheld : sA.held = s.held ++ [⟨.a, a, w, i, g⟩] := by rw [← hsA, traceWord_held]; rfl
    have hfreeB' : ∀ l, (State.withLink l sA).heldFor .b a = none := by
      intro l
      unfold State.heldFor at hfreeB ⊢
      change sA.held.find? _ = none
      rw [hheld, List.find?_append, hfreeB]
      rfl
    have hlen : sA.held.length = s.held.length + 1 := by rw [hheld]; simp
    dsimp only
    simp only [hsA']
    refine ⟨fun hepisodeB hroom => ?_, fun hepisodeB hseven => ?_, fun hidleB hroom => ?_⟩
    · have hB : processWord .b a w (State.withLink { s.link with buffer := none } sA) =
          (State.withLink { s.link with buffer := none }
            (traceWord .b a (.write .hold) w (sA.setHeld (sA.held ++ [⟨.b, a, w, j, h⟩]))), .hold) := by
        exact processWord_withLink
          ((classifyWord_offered (s := s) (t := State.withLink { s.link with buffer := none } sA)
            hwindows hshadow hchan hmatchB hholdB hepisodeB hheadB w).trans
            (offerHeld_new (s := State.withLink { s.link with buffer := none } sA) (hfreeB' _)
              (by change sA.held.length < 8; omega)))
      rw [writeTaken_twoTarget hwrite (hroomA (by omega)) (by simp) hB hempty, if_neg (by simp),
        settleUlwt_drained hempty, ← traceWord_withLink, hheld, List.append_assoc]
      rfl
    · have hB : processWord .b a w (State.withLink { s.link with buffer := none } sA) =
          (State.withLink { s.link with buffer := none }
            (traceWord .b a (.write .drop) w (raiseEvent .b .holdOverflow false sA)), .drop) := by
        refine processWord_withLink
          ((classifyWord_offered (s := s) (t := State.withLink { s.link with buffer := none } sA)
            hwindows hshadow hchan hmatchB hholdB hepisodeB hheadB w).trans
            ((offerHeld_full (s := State.withLink { s.link with buffer := none } sA) (hfreeB' _)
              (by change 8 ≤ sA.held.length; omega)).trans ?_))
        rw [raiseEvent_withLink]
      rw [writeTaken_twoTarget hwrite (hroomA (by omega)) (by simp) hB hempty, if_neg (by simp),
        settleUlwt_drained hempty, ← traceWord_withLink, ← raiseEvent_withLink]
    · have hB : processWord .b a w (State.withLink { s.link with buffer := none } sA) =
          (State.withLink { s.link with buffer := none }
            (traceWord .b a (.write .forward) w
              (captureCode .b h m ((s.windows[j.val]).ext1.value w) sA)), .forward) := by
        refine processWord_withLink
          ((classifyWord_captured (s := s) (t := State.withLink { s.link with buffer := none } sA)
            hwindows hshadow hchan hmatchB hidleB hheadB w).trans ?_)
        rw [captureCode_withLink]
      rw [writeTaken_twoTarget hwrite (hroomA hroom) (by simp) hB hempty, if_pos rfl,
        settleUlwt_forwarded, ← traceWord_withLink, ← captureCode_withLink]

end Sys2Proof.Machine
end

section
/-!
PROOFS. Taken blocks: passed whole, cut into runs, and the event of an overlong one (R1, R3–R5, R7, R9, R10, R17, R23).
-/

namespace Sys2Proof.Machine

/-! ## Words that nothing matches -/

/-- No window and no watch entry matches a written word at `a` for `p` (R23, R166). -/
def State.unmatched (s : State) (p : Side) (a : RegAddr) : Prop :=
  s.findWindow p a = none ∧ s.findWatch p a false = none

/-- Such a word is forwarded with no other effect. -/
theorem processWord_unmatched {s : State} {p : Side} {a : RegAddr} (h : s.unmatched p a) (w : Word) :
    processWord p a w s = (s, .forward) := by
  obtain ⟨hwindow, hwatch⟩ := h
  have hclass : classifyWord p a w s = (s, .forward) := by rw [classifyWord, hwindow]
  have htrace : traceWord p a (.write .forward) w s = s := by
    have hfind : s.findWatch p a (TraceDisposition.write .forward = .read) = none := hwatch
    rw [traceWord, hfind]
  rw [processWord, hclass, htrace]

theorem processTarget_unmatched {s : State} {p : Side} {target : Bool} {a : RegAddr}
    (h : target = true → s.unmatched p a) (w : Word) : processTarget p target a w s = (s, target) := by
  cases target with
  | false => rfl
  | true => simp [processTarget, processWord_unmatched (h rfl)]

/-- A position of such a word closes nothing and extends the run by the block's own pair (R9). -/
theorem processPosition_unmatched {s : State} {b : BlockWrite} {a : RegAddr}
    (h : ∀ p, targets b.toA b.toB p = true → s.unmatched p a) (w : Word) (run : Option Txn)
    (hpair : (extendRun run b.toA b.toB b.kept a w).1 = []) :
    processPosition b a w s run = (s, (extendRun run b.toA b.toB b.kept a w).2) := by
  have hA : processTarget .a b.toA a w (s.setEmission []) = (s.setEmission [], b.toA) :=
    processTarget_unmatched (s := s.setEmission []) (fun ht => h .a ht) w
  have hB : processTarget .b b.toB a w (s.setEmission []) = (s.setEmission [], b.toB) :=
    processTarget_unmatched (s := s.setEmission []) (fun ht => h .b ht) w
  simp only [processPosition, hA, hB, hpair, State.setEmission_link, List.isEmpty_nil, if_true, List.append_nil]
  rfl

/-- Nothing matches the next `k` words of a block, from address `a` on, for its targets. -/
def State.unmatchedFrom (s : State) (b : BlockWrite) (a : RegAddr) (k : Nat) : Prop :=
  ∀ p, targets b.toA b.toB p = true → ∀ n, n < k → s.unmatched p (a + BitVec.ofNat 7 n)

theorem State.unmatchedFrom.first {s : State} {b : BlockWrite} {a : RegAddr} {k : Nat}
    (h : s.unmatchedFrom b a (k + 1)) : ∀ p, targets b.toA b.toB p = true → s.unmatched p a := fun p hp => by
  simpa using h p hp 0 (Nat.succ_pos k)

theorem State.unmatchedFrom.rest {s : State} {b : BlockWrite} {a : RegAddr} {k : Nat}
    (h : s.unmatchedFrom b a (k + 1)) : s.unmatchedFrom b (a + 1) k := by
  intro p hp n hn
  have haddr : a + 1 + BitVec.ofNat 7 n = a + BitVec.ofNat 7 (n + 1) := by
    rw [BitVec.ofNat_add, add_assoc, add_comm (BitVec.ofNat 7 n)]
    rfl
  rw [haddr]
  exact h p hp (n + 1) (Nat.succ_lt_succ hn)

/-- An open run of the block's pair takes the rest of the words (R9). -/
theorem processBlock_unmatched {s : State} {b : BlockWrite} (words : List Word) : ∀ (a : RegAddr) (t : Txn),
    t.toA = b.toA → t.toB = b.toB →
    s.unmatchedFrom b a words.length →
    processBlock b a words s (some t) = s.setEmission (s.link.emission ++ [{ t with words := t.words ++ words }]) := by
  induction words with
  | nil =>
    intro a t _ _ _
    simp [processBlock]
  | cons w rest ih =>
    intro a t hA hB h
    have hextend : extendRun (some t) b.toA b.toB b.kept a w = ([], some { t with words := t.words ++ [w] }) := by
      simp [extendRun, hA, hB]
    rw [processBlock, processPosition_unmatched (State.unmatchedFrom.first h) w (some t) (by rw [hextend]), hextend]
    dsimp only
    rw [ih (a + 1) { t with words := t.words ++ [w] } hA hB (State.unmatchedFrom.rest h)]
    simp

/-! ## The kinds of taken writes -/

/-- A write with a target, taken in CONFIGURED (R4, R7). -/
theorem exec_writeTaken_configured {s : State} {b : BlockWrite} (hrst : s.rst = false) (hbuf : s.link.buffer = some b)
    (hempty : s.link.emission = []) (htarget : b.toA = true ∨ b.toB = true) (hc : s.loader.config = .configured) :
    exec .writeTaken s = .next (settleUlwt (processWrite b (s.withLink { s.link with buffer := none }))) := by
  have hsome : ¬(!b.toA && !b.toB) = true := by
    rcases htarget with h | h <;> simp [h]
  have hc : s.configured = true := by simp [State.configured, hc]
  have hexec : exec .writeTaken s = .next (writeTaken s) := congrArg _ (unlessReset_of_rst_low _ hrst)
  rw [hexec, writeTaken_of_buffered hbuf hempty, if_neg hsome, if_pos hc]

/-- And outside CONFIGURED (R17). -/
theorem exec_writeTaken_raw {s : State} {b : BlockWrite} (hrst : s.rst = false) (hbuf : s.link.buffer = some b)
    (hempty : s.link.emission = []) (htarget : b.toA = true ∨ b.toB = true) (hc : s.loader.config ≠ .configured) :
    exec .writeTaken s = .next (settleUlwt (passRaw b (s.withLink { s.link with buffer := none }))) := by
  have hsome : ¬(!b.toA && !b.toB) = true := by
    rcases htarget with h | h <;> simp [h]
  have hc : ¬s.configured = true := by simp [State.configured, hc]
  have hexec : exec .writeTaken s = .next (writeTaken s) := congrArg _ (unlessReset_of_rst_low _ hrst)
  rw [hexec, writeTaken_of_buffered hbuf hempty, if_neg hsome, if_neg hc]

/-- ULWT is released when a write leaves nothing on the list (R2). -/
theorem settleUlwt_setEmission {s t : State} {l m : List Txn} (hlink : t.link = { s.link with
    buffer := none, emission := m }) : settleUlwt (t.setEmission l) = { t with link := { s.link with
      buffer := none, emission := l, ulwt := s.link.ulwt && !l.isEmpty } } := by
  rw [settleUlwt_eq]
  simp [State.setEmission, State.withLink, Link.clear, hlink]

/-- Settles O12. -/
theorem unclassifiedWritesPassWhole : Obligations.UnclassifiedWritesPassWhole := by
  intro s b hrst hbuf
  refine ⟨fun hne => ?_, fun hempty htarget => ⟨fun hc hne => ?_, fun hshort hnil => ?_, fun hc hshort => ?_,
    fun hc hshort hne hfree => ?_⟩⟩
  · refine (congrArg _ (unlessReset_of_rst_low _ hrst)).trans ?_
    simp [writeTaken, hbuf, hne]
  · rw [exec_writeTaken_raw hrst hbuf hempty htarget hc, passRaw, if_neg (by simpa using hne),
      settleUlwt_setEmission (s := s) (m := []) (by rw [← hempty]; rfl)]
    simp [State.withLink, hempty]
  · by_cases hc : s.loader.config = .configured
    · rw [exec_writeTaken_configured hrst hbuf hempty htarget hc, processWrite, if_neg (by simp [hshort]), hnil,
        processBlock, settleUlwt_setEmission (s := s) (m := []) (by rw [← hempty]; rfl)]
      simp [State.withLink, hempty]
    · rw [exec_writeTaken_raw hrst hbuf hempty htarget hc, passRaw, if_pos (by simp [hnil]),
        settleUlwt_of_clear (s := s.withLink { s.link with buffer := none }) ((Link.clear_iff _).mpr ⟨hempty, rfl⟩)]
      rfl
  · obtain ⟨m, hm⟩ := blockPositions_link_eq b b.words b.addr (s.withLink { s.link with buffer := none })
    rw [exec_writeTaken_configured hrst hbuf hempty htarget hc, processWrite, if_neg (by simp [hshort]),
      processBlock_eq b _ _ _ none (by rintro t ⟨⟩), settleUlwt_setEmission (s := s) (m := m) (by rw [hm]; rfl),
      withLink_link, hempty]
    rfl
  · obtain ⟨w, rest, hwords⟩ := List.exists_cons_of_ne_nil hne
    rw [hwords] at hfree
    have hpair : extendRun none b.toA b.toB b.kept b.addr w = ([], some ⟨b.toA, b.toB, b.kept, b.addr, [w]⟩) := by
      have hsome : (b.toA || b.toB) = true := by simpa using htarget
      simp [extendRun, hsome]
    have hall : (s.withLink { s.link with buffer := none }).unmatchedFrom b b.addr (rest.length + 1) := hfree
    rw [exec_writeTaken_configured hrst hbuf hempty htarget hc, processWrite, if_neg (by simp [hshort]), hwords,
      processBlock, processPosition_unmatched hall.first w none (by rw [hpair]), hpair]
    dsimp only
    rw [processBlock_unmatched rest _ _ rfl rfl hall.rest,
      settleUlwt_setEmission (s := s) (m := []) (by rw [← hempty]; rfl)]
    simp [State.withLink, hempty]

/-! ## Overlong blocks (R5) -/

/-- The mark of an overlong block is read before its first word and never again. -/
theorem processBlock_overlong (b : BlockWrite) (o : Bool) (words : List Word) : ∀ (a : RegAddr) (s : State)
    (run : Option Txn), processBlock { b with overlong := o } a words s run = processBlock b a words s run := by
  induction words with
  | nil => exact fun _ _ _ => rfl
  | cons w rest ih => exact fun a s run => ih _ _ _

theorem raiseOverlong_withLink (b : BlockWrite) (l : Link) (s : State) :
    raiseOverlong b (State.withLink l s) = State.withLink l (raiseOverlong b s) := by
  unfold raiseOverlong
  cases b.toA <;> cases b.toB <;> simp [raiseEvent_withLink]

theorem raiseOverlong_frame (b : BlockWrite) (s : State) : (raiseOverlong b s).rst = s.rst ∧
    (raiseOverlong b s).loader = s.loader ∧ (raiseOverlong b s).link = s.link := by
  unfold raiseOverlong
  cases b.toA <;> cases b.toB <;> simp

/-- Settles O13. -/
theorem overlongBlockRaisesFirst : Obligations.OverlongBlockRaisesFirst := by
  intro s b hrst hc hempty hbuf hlong htarget
  obtain ⟨hrst', hloader, hlink⟩ := raiseOverlong_frame b s
  have hlater : exec .writeTaken (State.withLink
      { s.link with buffer := some { b with overlong := false } } (raiseOverlong b s)) = .next (settleUlwt
        (processWrite { b with overlong := false }
          (State.withLink { s.link with buffer := none } (raiseOverlong b s)))) :=
    exec_writeTaken_configured (b := { b with overlong := false }) (hrst'.trans hrst) rfl hempty htarget
      (by rw [← hc, ← hloader]; rfl)
  change exec .writeTaken s = exec .writeTaken (State.withLink
    { (raiseOverlong b s).link with buffer := some { b with overlong := false } } (raiseOverlong b s))
  rw [hlink, hlater, exec_writeTaken_configured hrst hbuf hempty htarget hc, processWrite, if_pos hlong,
    raiseOverlong_withLink, processWrite, if_neg (by simp)]
  exact congrArg (fun u => Host.Outcome.next (settleUlwt u)) (processBlock_overlong b false b.words _ _ none).symm

end Sys2Proof.Machine
end

section
/-!
PROOFS. The gate lines and what their edges do to the heat channels (R61–R68, R72, R76, R80–R87, R151, R152).
-/

namespace Sys2Proof.Machine

/-! ## Qualifiers (R61) -/

theorem sample_at_level (q : Nat) {level : Bool} {g : Qualifier} (h : level = g.level) :
    g.sample q level = ⟨g.level, 0⟩ := if_pos h

theorem sample_opposite {q : Nat} {level : Bool} {g : Qualifier} (h : level ≠ g.level) (hrun : g.run < q - 1) :
    g.sample q level = ⟨g.level, g.run + 1⟩ := by
  have hdue : ¬g.due q = true := by
    simp only [Qualifier.due, decide_eq_true_eq]
    omega
  rw [Qualifier.sample, if_neg h, if_neg hdue]

/-! ## Edges (R61, R63, R64) -/

section

variable {q : Nat} {g : Qualifier} {level : Bool} {set deliver : State → State} {s : State}

theorem takeEdge_of_due (hdue : EdgeDue q g level) :
    takeEdge (g.takes q level) set deliver s = deliverEdge deliver (set s) := by
  rw [takeEdge, if_pos ((takes_iff q level g).mpr hdue)]

/-- An edge that is due reaches its receiver in CONFIGURED. -/
theorem takeEdge_of_configured (hdue : EdgeDue q g level) (hc : (set s).loader.config = .configured) :
    takeEdge (g.takes q level) set deliver s = deliver (set s) := by
  rw [takeEdge_of_due hdue, deliverEdge, if_pos (by simpa [State.configured] using hc)]

/-- Outside CONFIGURED it reaches none. -/
theorem takeEdge_of_not_configured (hdue : EdgeDue q g level) (hc : (set s).loader.config ≠ .configured) :
    takeEdge (g.takes q level) set deliver s = set s := by
  rw [takeEdge_of_due hdue, deliverEdge, if_neg (by simpa [State.configured] using hc)]

/-- An edge changes the gates by its own qualifier alone, when its receiver leaves them. -/
theorem takeEdge_gates (hdue : EdgeDue q g level) (hdeliver : ∀ u, (deliver u).gates = u.gates) :
    (takeEdge (g.takes q level) set deliver s).gates = (set s).gates := by
  rw [takeEdge_of_due hdue, deliverEdge]
  split
  · exact hdeliver _
  · rfl

end

theorem writeRise_gates (x : Side) (s : State) : (writeRise x s).gates = s.gates := by
  unfold writeRise lenientWrite earlyGate
  split
  · simp
  · split <;> simp
  · simp
  · simp
  all_goals rfl

theorem writeFall_gates (x : Side) (s : State) : (writeFall x s).gates = s.gates := by
  unfold writeFall
  split
  · split <;> simp
  · rfl

theorem servoRise_gates (x : Side) (s : State) : (servoRise x s).gates = s.gates := by
  unfold servoRise servoOverlap
  split
  · split <;> simp
  · simp
  all_goals rfl

/-- Out of RST_N an edge command is its edge. -/
theorem exec_edge {c : Instr} (f : State → State) {s : State} (hexec : exec c s = .next (unlessReset f s))
    (hrst : s.rst = false) : exec c s = .next (f s) := by
  rw [hexec, unlessReset_of_rst_low f hrst]

/-- Settles O33. -/
theorem qualifiersFollowTheSampleTable : Obligations.QualifiersFollowTheSampleTable := by
  refine ⟨fun s v hrst => ⟨(gateSample v s).gates, exec_edge (gateSample v) rfl hrst, rfl, ?_⟩, fun s x hrst =>
    ⟨fun level => ⟨fun hdue => ?_, fun hdue => ?_⟩, fun level => ⟨fun hdue => ?_, fun hdue => ?_⟩,
      fun level => ⟨fun hdue => ?_, fun hdue => ?_⟩⟩⟩
  · have htable : ∀ (level : Bool) (g : Qualifier),
        (level = g.level → g.sample s.gates.q level = ⟨g.level, 0⟩) ∧
        (level ≠ g.level → g.run < s.gates.q - 1 → g.sample s.gates.q level = ⟨g.level, g.run + 1⟩) :=
      fun _ _ => ⟨sample_at_level _, sample_opposite⟩
    intro level before after hinput
    simp only [Prod.mk.injEq] at hinput
    rcases hinput with ⟨rfl, rfl, rfl⟩ | ⟨rfl, rfl, rfl⟩ | ⟨rfl, rfl, rfl⟩ | ⟨rfl, rfl, rfl⟩ | ⟨rfl, rfl, rfl⟩ <;>
      exact htable _ _
  · cases level
    · exact ⟨_, exec_edge (writeGateFall x) rfl hrst, takeEdge_gates hdue (writeFall_gates x)⟩
    · exact ⟨_, exec_edge (writeGateRise x) rfl hrst, takeEdge_gates hdue (writeRise_gates x)⟩
  · cases level <;> exact (exec_edge _ rfl hrst).trans (congrArg _ (takeEdge_of_not_due hdue))
  · cases level
    · exact ⟨_, exec_edge (servoGateFall x) rfl hrst, takeEdge_gates hdue fun _ => rfl⟩
    · exact ⟨_, exec_edge (servoGateRise x) rfl hrst, takeEdge_gates hdue (servoRise_gates x)⟩
  · cases level <;> exact (exec_edge _ rfl hrst).trans (congrArg _ (takeEdge_of_not_due hdue))
  · cases level
    · exact ⟨_, exec_edge frzFall rfl hrst, takeEdge_gates hdue freezeFall_gates⟩
    · exact ⟨_, exec_edge frzRise rfl hrst, takeEdge_gates hdue freezeRise_gates⟩
  · cases level <;> exact (exec_edge _ rfl hrst).trans (congrArg _ (takeEdge_of_not_due hdue))

/-- Settles O34. -/
theorem undeliveredEdgesOnlyQualify : Obligations.UndeliveredEdgesOnlyQualify := by
  intro s x hrst
  refine ⟨fun hc => ⟨fun hdue => ?_, fun hdue => ?_, fun hdue => ?_, fun hdue => ?_, fun hdue => ?_⟩, fun hdue => ?_⟩
  case refine_6 =>
    refine (exec_edge _ rfl hrst).trans (congrArg _ ((takeEdge_of_due hdue).trans ?_))
    exact ite_self _
  all_goals exact (exec_edge _ rfl hrst).trans (congrArg _ (takeEdge_of_not_configured hdue hc))

end Sys2Proof.Machine
end

section
/-!
PROOFS. What a qualified edge does to a heat channel, and the expiries of its timers (R66, R72, R76, R79–R87, R147,
R148, R151, R152).
-/

namespace Sys2Proof.Machine

theorem modChan_modChan (x : Side) (f g : Channel → Channel) (s : State) :
    (s.modChan x f).modChan x g = s.modChan x fun c => g (f c) := by
  simp [State.modChan, State.setChan]

/-! ## Delivered edges -/

section

variable {s : State} {x : Side}

theorem exec_writeGateRise_delivered (hrst : s.rst = false) (hc : s.loader.config = .configured)
    (hdue : EdgeDue s.gates.q (s.gates.wg.get x) true) :
    exec (.writeGateRise x) s = .next (writeRise x (s.setWriteGate x true)) :=
  (exec_edge (writeGateRise x) rfl hrst).trans (congrArg _ (takeEdge_of_configured hdue hc))

theorem exec_writeGateFall_delivered (hrst : s.rst = false) (hc : s.loader.config = .configured)
    (hdue : EdgeDue s.gates.q (s.gates.wg.get x) false) :
    exec (.writeGateFall x) s = .next (writeFall x (s.setWriteGate x false)) :=
  (exec_edge (writeGateFall x) rfl hrst).trans (congrArg _ (takeEdge_of_configured hdue hc))

theorem exec_servoGateRise_delivered (hrst : s.rst = false) (hc : s.loader.config = .configured)
    (hdue : EdgeDue s.gates.q (s.gates.sg.get x) true) :
    exec (.servoGateRise x) s = .next (servoRise x (s.setServoGate x true)) :=
  (exec_edge (servoGateRise x) rfl hrst).trans (congrArg _ (takeEdge_of_configured hdue hc))

end

/-! ## The forwarded gate (R66) -/

theorem gateOut_setWriteGate {s t : State} {x : Side} {level : Bool}
    (hgates : t.gates = (s.setWriteGate x level).gates) :
    t.gateOut x = (level && decide ((t.chan.get x).state = .writing)) := by
  rw [State.gateOut, hgates]
  simp [Qualifier.edge]

/-! ## Write gate rises (R80–R82) -/

theorem writeRise_of_writable {s : State} {x : Side}
    (h : (s.chan.get x).state = .ready ∨ (s.chan.get x).state = .holding) : writeRise x s = enterWriting x s := by
  unfold writeRise
  rcases h with h | h <;> rw [h]

theorem writeRise_of_closed {s : State} {x : Side}
    (h : (s.chan.get x).state = .idle ∨ (s.chan.get x).state = .faulted ∨ (s.chan.get x).state = .frozen) :
    writeRise x s = s := by
  unfold writeRise
  rcases h with h | h | h <;> rw [h]

theorem writeRise_withheld {s : State} {x : Side}
    (h : (s.chan.get x).state = .pending ∨ ((s.chan.get x).state = .preheat ∧ s.earlyPolicy = .strict)) :
    writeRise x s = earlyGate x s := by
  unfold writeRise
  rcases h with h | ⟨h, hstrict⟩
  · rw [h]
  · rw [h]
    exact if_neg (by simp [hstrict])

theorem writeRise_lenient {s : State} {x : Side} (h : (s.chan.get x).state = .preheat)
    (hlenient : s.earlyPolicy = .lenient) : writeRise x s = lenientWrite x (earlyGate x s) := by
  unfold writeRise
  rw [h]
  exact if_pos hlenient

/-- An early gate: the flag is set and the event raised, in either order. -/
theorem earlyGate_eq (x : Side) (s : State) :
    earlyGate x s = raiseEvent x .earlyGate false
      (s.modChan x fun c => { c with record := { c.record with early := true } }) :=
  (raiseEvent_modChan x .earlyGate false x (fun c => { c with record := { c.record with early := true } })
    (fun _ => rfl) s).symm

/-- The lenient gate, with the event told last (R81, R82). -/
theorem lenientWrite_earlyGate (x : Side) (s : State) :
    lenientWrite x (earlyGate x s) = raiseEvent x .earlyGate false (s.modChan x fun c =>
      Channel.toWriting (s.episodeRec x).image.kickLength
        { c with leadTimer := .stopped, record := { c.record with early := true, lenient := true } }) := by
  have hrec : (earlyGate x s).episodeRec x = s.episodeRec x := by
    simp [earlyGate, State.episodeRec, State.headRec]
  rw [lenientWrite_eq, hrec, earlyGate_eq]
  refine (raiseEvent_modChan x .earlyGate false x (fun c => Channel.toWriting (s.episodeRec x).image.kickLength
    { c with leadTimer := .stopped, record := { c.record with lenient := true } }) (fun _ => rfl) _).symm.trans ?_
  rw [modChan_modChan]

/-- Settles O35. -/
theorem writeGateRiseBeginsInterval : Obligations.WriteGateRiseBeginsInterval := by
  intro s x hrst hc hdue
  have hexec := exec_writeGateRise_delivered hrst hc hdue
  refine ⟨fun hstate => ?_, fun hstate => hexec.trans (congrArg _ (writeRise_of_closed hstate))⟩
  rw [writeRise_of_writable (by exact hstate)] at hexec
  refine ⟨_, hexec, rfl, ?_, fun plan hlive => ?_⟩
  · rw [gateOut_setWriteGate (s := s) (level := true) (by simp)]
    simp [enterWriting, Channel.toWriting]
  · by_cases hkick : 1 ≤ (s.episodeRec x).image.kickLength <;>
      simp_all [enterWriting, Channel.toWriting, Channel.planned, State.episodeRec, State.headRec]

/-- Settles O36. -/
theorem earlyGateWithheldOrLenient : Obligations.EarlyGateWithheldOrLenient := by
  intro s x hrst hc hdue
  have hexec := exec_writeGateRise_delivered hrst hc hdue
  refine ⟨fun hstate => ?_, fun hstate hlenient => ?_⟩
  · rw [writeRise_withheld (by exact hstate), earlyGate_eq] at hexec
    refine ⟨_, hexec, rfl, ?_⟩
    rw [gateOut_setWriteGate (s := s) (level := true) (by simp)]
    rcases hstate with hstate | ⟨hstate, -⟩ <;> simp [hstate]
  · rw [writeRise_lenient (by exact hstate) (by exact hlenient), lenientWrite_earlyGate] at hexec
    refine ⟨_, hexec, rfl, ?_⟩
    rw [gateOut_setWriteGate (s := s) (level := true) (by simp)]
    simp [Channel.toWriting]

/-! ## Write gate falls and servo gate rises (R84, R85, R87, R151) -/

/-- An episode that the freeze ends, in one equation (R150, R151). -/
theorem leaveFrozen_eq (x : Side) (s : State) :
    leaveFrozen x s = { leaveEpisode x .frozen .frozen s with freeze := { s.freeze with
      wait := s.freeze.wait.set x false, frozenEpisode := s.freeze.frozenEpisode.set x true } } := by
  have hfreeze : (leaveEpisode x .frozen .frozen s).freeze = s.freeze := by simp
  simp only [leaveFrozen, State.setFrozenEpisode, State.setWait, hfreeze]

/-- Settles O37. -/
theorem writeGateFallEndsInterval : Obligations.WriteGateFallEndsInterval := by
  intro s x hrst hc hdue
  have hexec := exec_writeGateFall_delivered hrst hc hdue
  refine ⟨fun hstate hwait => ?_, fun hstate hwait => ?_, fun hstate => ?_⟩
  · rw [hexec, writeFall, if_pos (by exact hstate), if_neg (by simp [hwait])]
    rfl
  · rw [hexec, writeFall, if_pos (by exact hstate), if_pos (by exact hwait), leaveFrozen_eq]
    rfl
  · rw [hexec, writeFall, if_neg (by exact hstate)]
    rfl

/-- A servo overlap, with the flag told first (R85). -/
theorem servoOverlap_eq (x : Side) (s : State) :
    servoOverlap x s =
      if s.freeze.wait.get x then
        leaveFrozen x (raiseEvent x .servoOverlap false
          (s.modChan x fun c => { c with record := { c.record with overlap := true } }))
      else
        raiseEvent x .servoOverlap false (s.modChan x fun c =>
          Channel.toHolding s.dwellLimit { c with record := { c.record with overlap := true } }) := by
  have hflag : (raiseEvent x .servoOverlap false s).modChan x
      (fun c => { c with record := { c.record with overlap := true } }) =
      raiseEvent x .servoOverlap false
        (s.modChan x fun c => { c with record := { c.record with overlap := true } }) :=
    (raiseEvent_modChan x .servoOverlap false x (fun c => { c with record := { c.record with overlap := true } })
      (fun _ => rfl) s).symm
  unfold servoOverlap
  dsimp only
  rw [hflag]
  split
  · rfl
  · refine Eq.trans ?_ (congrArg (raiseEvent x .servoOverlap false) (modChan_modChan x
      (fun c => { c with record := { c.record with overlap := true } }) (Channel.toHolding s.dwellLimit) s))
    rw [raiseEvent_modChan x .servoOverlap false x (Channel.toHolding s.dwellLimit) (fun _ => rfl), enterHolding]
    simp

theorem servoRise_of_writing {s : State} {x : Side} (h : (s.chan.get x).state = .writing) :
    servoRise x s = servoOverlap x s := by
  unfold servoRise
  rw [h]

theorem servoRise_of_holding {s : State} {x : Side} (h : (s.chan.get x).state = .holding) :
    servoRise x s = s.modChan x Channel.swapped := by
  unfold servoRise
  rw [h]

theorem servoRise_elsewhere {s : State} {x : Side} (hwriting : (s.chan.get x).state ≠ .writing)
    (hholding : (s.chan.get x).state ≠ .holding) : servoRise x s = s := by
  unfold servoRise
  cases hstate : (s.chan.get x).state with
  | writing => exact absurd hstate hwriting
  | holding => exact absurd hstate hholding
  | _ => rfl

/-- Settles O38. -/
theorem servoGateRiseCutsOrSwaps : Obligations.ServoGateRiseCutsOrSwaps := by
  intro s x hrst hc hdue
  have hexec := exec_servoGateRise_delivered hrst hc hdue
  refine ⟨fun hstate hwait => ?_, fun hstate hwait => ?_,
    fun hstate => ⟨fun plan hstaged => ?_, fun hstaged => ?_⟩, fun hwriting hholding => ?_⟩
  · rw [servoRise_of_writing (by exact hstate), servoOverlap_eq, if_neg (by simp [hwait])] at hexec
    refine ⟨_, hexec, rfl, ?_⟩
    rw [State.gateOut]
    simp [Channel.toHolding]
  · rw [hexec, servoRise_of_writing (by exact hstate), servoOverlap_eq, if_pos (by exact hwait), leaveFrozen_eq]
    simp only [raiseEvent_freeze]
    rfl
  · have hswap : Channel.swapped (s.chan.get x) = { s.chan.get x with live := some plan, staged := none } := by
      rw [Channel.swapped, hstaged]
    rw [hexec, servoRise_of_holding (by exact hstate)]
    change Host.Outcome.next (State.setChan x (Channel.swapped (s.chan.get x)) _) = _
    rw [hswap]
    rfl
  · have hsame : Channel.swapped (s.chan.get x) = s.chan.get x := by rw [Channel.swapped, hstaged]
    rw [hexec, servoRise_of_holding (by exact hstate)]
    change Host.Outcome.next (State.setChan x (Channel.swapped (s.chan.get x)) _) = _
    rw [hsame, State.setChan]
    simp [State.setServoGate, Qualifier.edge]
  · exact hexec.trans (congrArg _ (servoRise_elsewhere hwriting hholding))

/-! ## The expiries (R79, R83, R147, R148) -/

theorem timer_due_iff (t : Timer) : t.due = true ↔ ∃ n, n ≤ 1 ∧ t = .counting n := by
  cases t <;> simp [Timer.due]

/-- A timer that does not expire. -/
theorem timer_not_due {t : Timer} (h : t = .stopped ∨ t = .waiting ∨ ∃ n, 2 ≤ n ∧ t = .counting n) : t.due = false := by
  rcases h with rfl | rfl | ⟨n, hn, rfl⟩
  · rfl
  · rfl
  · simp only [Timer.due, decide_eq_false_iff_not]
    omega

theorem dwells_iff (d : ChanState) : d.dwells = true ↔ d = .preheat ∨ d = .ready ∨ d = .holding := by
  cases d <;> simp [ChanState.dwells]

theorem frameDue_iff (counter : Option Nat) (next : Bool) :
    frameDue counter next = true ↔ counter = some 0 ∨ (counter = some 1 ∧ next = true) := by
  simp [frameDue]

/-- Settles O39. -/
theorem timersAndDwellExpire : Obligations.TimersAndDwellExpire := by
  intro s x hrst
  have hrun : ∀ (c : Instr) (f : State → State) (t : State), exec c s = .next (unlessReset f s) → f s = t →
      exec c s = .next t := fun c f t hexec hf => (exec_edge f hexec hrst).trans (congrArg _ hf)
  refine ⟨fun n hstate htimer hn => ?_, fun hidle => ?_, fun n hstate htimer hn => ?_, fun hidle => ?_,
    fun hstate hdwell => ?_, fun hidle => ?_⟩
  · have hdue : (s.chan.get x).leadTimer.due = true := (timer_due_iff _).mpr ⟨n, hn, htimer⟩
    exact hrun _ (leadExpiry x) _ rfl (if_pos (by simp [hstate, hdue]))
  · exact hrun _ (leadExpiry x) _ rfl (if_neg (by simp [timer_not_due hidle]))
  · have hdue : (s.chan.get x).kickTimer.due = true := (timer_due_iff _).mpr ⟨n, hn, htimer⟩
    refine ⟨_, hrun _ (kickExpiry x) _ rfl (if_pos (by simp [hstate, hdue])), rfl, fun plan hlive => ?_⟩
    simp [Channel.planned, hlive, hstate]
  · exact hrun _ (kickExpiry x) _ rfl (if_neg (by simp [timer_not_due hidle]))
  · have hwaits : (s.chan.get x).state.dwells = true := (dwells_iff _).mpr hstate
    have hdue : frameDue (s.chan.get x).dwell s.frameNext = true := by
      rw [frameDue_iff, s.frameNext_iff]
      exact hdwell
    exact hrun _ (dwellExpiry x) _ rfl (if_pos (by simp [hwaits, hdue]))
  · refine hrun _ (dwellExpiry x) _ rfl (if_neg ?_)
    rw [Bool.and_eq_true, dwells_iff, frameDue_iff, s.frameNext_iff]
    rintro ⟨hwaits, hdue⟩
    rcases hidle with hnot | hnone | ⟨hone, hnow⟩ | ⟨n, hn, hleft⟩
    · exact hnot hwaits
    · rcases hdue with h | ⟨h, -⟩ <;> simp [hnone] at h
    · rcases hdue with h | ⟨-, h⟩
      · simp [hone] at h
      · exact hnow h
    · rcases hdue with h | ⟨h, -⟩ <;> (rw [hleft] at h; obtain rfl := Option.some.inj h; omega)

end Sys2Proof.Machine
end

section
/-!
PROOFS. The plan engine (chapter 7): the arbiter's table, the delivery of a result and the arithmetic of a plan.
-/

namespace Sys2Proof.Machine

/-! ## The arbiter (R103, R104) -/

theorem exec_arbiterStart {s : State} (hrst : s.rst = false) : exec .arbiterStart s = .next (arbiterStart s) :=
  exec_edge arbiterStart rfl hrst

/-- R103's choice: the only request, the ARM before the RECOMPUTE, or the channel that was not served last. -/
theorem chooseRequest_eq {place : PerSide (Option ReqClass)} {last x : Side} {c : ReqClass}
    (hreq : place.get x = some c)
    (hwins : place.get x.other = none ∨ (c = .arm ∧ place.get x.other = some .recompute) ∨
      (place.get x.other = some c ∧ last = x.other)) :
    chooseRequest place.a place.b last = some (x, c) := by
  cases x with
  | a =>
    have ha : place.a = some c := hreq
    rcases hwins with hb | ⟨rfl, hb⟩ | ⟨hb, rfl⟩
    · rw [ha, show place.b = none from hb]; cases c <;> rfl
    · rw [ha, show place.b = some .recompute from hb]; rfl
    · rw [ha, show place.b = some c from hb]; cases c <;> rfl
  | b =>
    have hb : place.b = some c := hreq
    rcases hwins with ha | ⟨rfl, ha⟩ | ⟨ha, rfl⟩
    · rw [hb, show place.a = none from ha]; cases c <;> rfl
    · rw [hb, show place.a = some .recompute from ha]; rfl
    · rw [hb, show place.a = some c from ha]; cases c <;> rfl

theorem arbiterStart_of_busy {s : State} (h : s.engine.unit ≠ none) : arbiterStart s = s := by
  obtain ⟨r, hr⟩ := Option.ne_none_iff_exists'.mp h
  rw [arbiterStart, hr]

theorem arbiterStart_of_no_request {s : State} (ha : s.engine.place.a = none) (hb : s.engine.place.b = none) :
    arbiterStart s = s := by
  rw [arbiterStart, ha, hb]
  cases s.engine.unit <;> rfl

theorem arbiterStart_of_chosen {s : State} {x : Side} {c : ReqClass} (hfree : s.engine.unit = none)
    (hchosen : chooseRequest s.engine.place.a s.engine.place.b s.engine.lastServed = some (x, c)) :
    arbiterStart s = { s with engine :=
      { unit := some ⟨x, c, (s.chan.get x).episode, (s.episodeRec x).inputs⟩
        place := s.engine.place.set x none
        lastServed := x } } := by
  rw [arbiterStart, hfree, hchosen]

/-- With both codes present the inputs are the record's fields (R104). -/
theorem inputs_of_calibrated {r : HeadRecord} {t o : Nat} (ht : r.threshold = some t) (ho : r.operating = some o) :
    r.inputs = ⟨t, o, r.image.ceiling, r.image.kickDelta, r.image.preheatFraction, r.image.thermalGain,
      r.image.leadBase, r.image.leadFloor, r.image.leadCredit, r.heat⟩ := by
  rw [HeadRecord.inputs, ht, ho]
  rfl

/-- Settles O45. -/
theorem arbiterStartsByTheTable : Obligations.ArbiterStartsByTheTable := by
  intro s hrst
  have hexec := exec_arbiterStart hrst
  refine ⟨fun hbusy => ?_, fun ha hb => ?_, fun x c hfree hreq hwins t o ht ho => ?_⟩
  · rw [hexec, arbiterStart_of_busy hbusy]
  · rw [hexec, arbiterStart_of_no_request ha hb]
  · rw [hexec, arbiterStart_of_chosen hfree (chooseRequest_eq hreq hwins), State.episodeRec,
      inputs_of_calibrated ht ho]

/-! ## The delivery (R77, R78, R86, R105) -/

theorem computationEnd_of_running {s : State} {r : Computation} (hrun : s.engine.unit = some r) :
    computationEnd s = { s with
      engine := { s.engine with unit := none }
      chan := s.chan.set r.side (Channel.receive r s.dwellLimit (s.chan.get r.side)) } := by
  rw [computationEnd, hrun]
  rfl

theorem receive_arm {r : Computation} {c : Channel} (hcls : r.cls = .arm) (htag : r.tag = c.episode)
    (hstate : c.state = .pending) (limit : Nat) :
    Channel.receive r limit c = { c with
      state := .preheat, live := some (computePlan r.inputs), leadTimer := .waiting, dwell := some limit } := by
  rw [Channel.receive, if_pos htag, hcls]
  exact if_pos hstate

theorem receive_recompute {r : Computation} {c : Channel} (hcls : r.cls = .recompute) (htag : r.tag = c.episode)
    (hstate : c.state = .writing ∨ c.state = .holding) (limit : Nat) :
    Channel.receive r limit c = { c with staged := some (computePlan r.inputs) } := by
  rw [Channel.receive, if_pos htag, hcls]
  exact if_pos ((recomputes_iff _).mpr hstate)

theorem receive_discarded {r : Computation} {c : Channel}
    (h : r.tag ≠ c.episode ∨ (r.cls = .arm ∧ c.state ≠ .pending) ∨
      (r.cls = .recompute ∧ c.state ≠ .writing ∧ c.state ≠ .holding)) (limit : Nat) :
    Channel.receive r limit c = c := by
  by_cases htag : r.tag = c.episode
  · rw [Channel.receive, if_pos htag]
    rcases h with hne | ⟨hcls, hstate⟩ | ⟨hcls, hwriting, hholding⟩
    · exact absurd htag hne
    · rw [hcls]
      exact if_neg hstate
    · rw [hcls]
      exact if_neg fun hre => ((recomputes_iff _).mp hre).elim hwriting hholding
  · exact if_neg htag

/-- Settles O46. -/
theorem computationEndDelivers : Obligations.ComputationEndDelivers := by
  intro s r hrst hrun
  have hexec : exec .computationEnd s = .next (computationEnd s) := exec_edge computationEnd rfl hrst
  rw [computationEnd_of_running hrun] at hexec
  refine ⟨fun hcls htag hstate => ?_, fun hcls htag hstate => ?_, fun hdiscard => ?_⟩
  · rw [hexec, receive_arm hcls htag hstate]
  · rw [hexec, receive_recompute hcls htag hstate]
  · rw [hexec, receive_discarded hdiscard, PerSide.set_get]

/-! ## The arithmetic (R108–R113) -/

/-- The compensation of R107's ranges stays below R109's divisor, so S does not fall below T. -/
theorem reduction_le_span {i : PlanInputs} (hgain : i.k ≤ 255) (hheat : i.h ≤ 65535) :
    i.span * i.compensation / 1024 ≤ i.span := by
  have hshare : i.compensation ≤ 1024 := by
    have hproduct : i.h * i.k ≤ 65535 * 255 := Nat.mul_le_mul hheat hgain
    simp only [PlanInputs.compensation]
    omega
  calc i.span * i.compensation / 1024
      ≤ i.span * 1024 / 1024 := Nat.div_le_div_right (Nat.mul_le_mul_left _ hshare)
    _ = i.span := Nat.mul_div_cancel _ (by decide)

theorem threshold_le_sustain {i : PlanInputs} (hgain : i.k ≤ 255) (hheat : i.h ≤ 65535) : i.t ≤ i.sustain := by
  have hred := reduction_le_span hgain hheat
  simp only [PlanInputs.sustain]
  omega

theorem sustain_le_ceiling {i : PlanInputs} (ht : i.t ≤ i.c) (ho : i.o ≤ i.c) : i.sustain ≤ i.c := by
  simp only [PlanInputs.sustain, PlanInputs.span]
  omega

theorem preheat_le_sustain {i : PlanInputs} (hpf : i.pf ≤ 16) (hbase : i.t ≤ i.sustain) : i.preheat ≤ i.sustain := by
  have hpart : (i.sustain - i.t) * i.pf / 16 ≤ i.sustain - i.t := by
    calc (i.sustain - i.t) * i.pf / 16
        ≤ (i.sustain - i.t) * 16 / 16 := Nat.div_le_div_right (Nat.mul_le_mul_left _ hpf)
      _ = i.sustain - i.t := Nat.mul_div_cancel _ (by decide)
  simp only [PlanInputs.preheat]
  omega

theorem sustain_le_kickBy {i : PlanInputs} (hceiling : i.sustain ≤ i.c) (delta : Nat) :
    i.sustain ≤ i.kickBy delta := by
  unfold PlanInputs.kickBy
  split <;> omega

theorem kickBy_le_ceiling {i : PlanInputs} (hceiling : i.sustain ≤ i.c) (delta : Nat) : i.kickBy delta ≤ i.c := by
  unfold PlanInputs.kickBy
  split <;> omega

theorem kickBy_mono {i : PlanInputs} {d e : Nat} (h : d ≤ e) : i.kickBy d ≤ i.kickBy e := by
  unfold PlanInputs.kickBy
  split <;> omega

/-- The span over the integers (R108). -/
theorem span_cast (i : PlanInputs) : (i.span : Int) = if i.t < i.o then (i.o : Int) - i.t else 0 := by
  simp only [PlanInputs.span]
  split <;> omega

theorem sustain_cast {i : PlanInputs} (hgain : i.k ≤ 255) (hheat : i.h ≤ 65535) :
    (i.sustain : Int) = i.t + i.span - i.span * ((i.h : Int) * i.k / 65536) / 1024 := by
  have hred := reduction_le_span hgain hheat
  rw [PlanInputs.sustain, Nat.cast_sub (by omega)]
  simp [PlanInputs.compensation]

theorem kickBy_cast (i : PlanInputs) (delta : Nat) :
    (i.kickBy delta : Int) = if 0 < (i.span : Int) then min ((i.sustain : Int) + delta) i.c else i.sustain := by
  unfold PlanInputs.kickBy
  by_cases hspan : 0 < i.span
  · rw [if_pos hspan, if_pos (by exact_mod_cast hspan), Nat.cast_min, Nat.cast_add]
  · rw [if_neg hspan, if_neg (by exact_mod_cast hspan)]

theorem preheat_cast {i : PlanInputs} (hbase : i.t ≤ i.sustain) :
    (i.preheat : Int) = i.t + ((i.sustain : Int) - i.t) * i.pf / 16 := by
  simp [PlanInputs.preheat, Nat.cast_sub hbase]

theorem lead_cast (i : PlanInputs) : (i.lead : Int) = max (i.lf : Int)
    (if (i.lb : Int) < (i.h : Int) * i.lc / 65536 then 0 else i.lb - (i.h : Int) * i.lc / 65536) := by
  have hcredit : (i.h : Int) * i.lc / 65536 = (i.credit : Int) := by simp [PlanInputs.credit]
  rw [hcredit, PlanInputs.lead]
  split <;> omega

/-- Settles O47. -/
theorem planArithmeticStaysWithinBounds : Obligations.PlanArithmeticStaysWithinBounds := by
  intro i ht ho _ _ hpf hgain _ _ _ hlf hheat
  have hbase : i.t ≤ i.sustain := threshold_le_sustain hgain hheat
  have hceiling : i.sustain ≤ i.c := sustain_le_ceiling ht ho
  have hsustain := sustain_cast hgain hheat
  have hspan := span_cast i
  rw [hspan] at hsustain
  refine ⟨hsustain, ?_, ?_, ?_, lead_cast i, Nat.le_add_right _ _, preheat_le_sustain hpf hbase,
    sustain_le_kickBy hceiling _, kickBy_mono (Nat.div_le_self _ _), kickBy_le_ceiling hceiling _,
    le_max_left _ _, max_le hlf (Nat.sub_le _ _)⟩
  · rw [← hsustain, ← hspan]
    exact kickBy_cast i i.kd
  · rw [← hsustain, ← hspan]
    exact (kickBy_cast i (i.kd / 2)).trans (by simp)
  · rw [← hsustain]
    exact preheat_cast hbase

end Sys2Proof.Machine
end

section
/-!
PROOFS. The event unit (chapter 12): raises, the full report queue, the merged code and the fault line.
-/

namespace Sys2Proof.Machine

/-! ## Pending sets (R155) -/

theorem EventKind.mem_all (k : EventKind) : k ∈ EventKind.all := by cases k <;> decide

theorem mem_addKind {j k : EventKind} {kinds : List EventKind} : j ∈ addKind k kinds ↔ j = k ∨ j ∈ kinds := by
  simp [addKind, EventKind.mem_all]

theorem isMasked_eq (mask : BitVec 16) (k : EventKind) :
    isMasked mask k = (decide (k ≠ .imageBad) && mask.getLsbD k.code) := rfl

/-! ## The report queue (R163, R164) -/

theorem queueReport_of_room {s : State} (hroom : s.reports.records.length < 16) (r : Report) :
    queueReport r s = { s with reports := { s.reports with records := s.reports.records ++ [r] } } := if_pos hroom

theorem queueReport_overflow_of_full {s : State} (hfull : 16 ≤ s.reports.records.length) {r : Report}
    (hover : r.isOverflow = true) : queueReport r s = s :=
  (if_neg (Nat.not_lt.mpr hfull)).trans (if_pos hover)

theorem queueReport_of_full {s : State} (hfull : 16 ≤ s.reports.records.length) {r : Report}
    (hother : r.isOverflow = false) : queueReport r s = raiseOverflow s :=
  (if_neg (Nat.not_lt.mpr hfull)).trans (if_neg (by simp [hother]))

/-- The only record whose loss raises nothing is the EVENT record of a REPORT_OVERFLOW (R164). -/
theorem isOverflow_eq_false {r : Report}
    (h : ∀ p injected again masked n, r ≠ .event p .reportOverflow injected again masked n) :
    r.isOverflow = false := by
  cases r with
  | event p kind injected again masked n =>
    simp only [Report.isOverflow, decide_eq_false_iff_not]
    rintro rfl
    exact h p injected again masked n rfl
  | episode => rfl
  | trace => rfl

/-- Settles O54. -/
theorem raisesAndTheFullQueue : Obligations.RaisesAndTheFullQueue := by
  refine ⟨fun s p k injected => ⟨?_, fun j => mem_addKind⟩, fun s r hroom => queueReport_of_room hroom r,
    fun s p injected again masked n hfull => queueReport_overflow_of_full hfull rfl, fun s r hfull hother => ?_⟩
  · rw [raiseEvent, List.contains_eq_mem, isMasked_eq]
    rfl
  · rw [queueReport_of_full hfull (isOverflow_eq_false hother)]
    rfl

/-! ## The merged code (R157–R159) -/

/-- A kind that the merged code may show: pending and not masked. -/
def Shown (mask : BitVec 16) (kinds : List EventKind) (k : EventKind) : Prop :=
  k ∈ kinds ∧ (k = .imageBad ∨ mask.getLsbD k.code = false)

theorem shown_iff (mask : BitVec 16) (kinds : List EventKind) (k : EventKind) :
    (kinds.contains k && !isMasked mask k) = true ↔ Shown mask kinds k := by
  simp [Shown, isMasked, or_iff_not_imp_left]

theorem EventKind.all_sorted : EventKind.all.Pairwise fun j k => j.code < k.code := by decide

/-- The search in code order finds the lowest code (R159). -/
theorem find?_all_code_le {q : EventKind → Bool} {j k : EventKind} (hfind : EventKind.all.find? q = some j)
    (hk : q k = true) : j.code ≤ k.code := by
  obtain ⟨-, before, behind, hall, hbefore⟩ := List.find?_eq_some_iff_append.mp hfind
  have hmem : k ∈ before ++ j :: behind := hall ▸ k.mem_all
  have hsorted : (j :: behind).Pairwise fun j k => j.code < k.code :=
    (List.pairwise_append.mp (hall ▸ EventKind.all_sorted)).2.1
  rcases List.mem_append.mp hmem with hk' | hk'
  · have := hbefore k hk'
    simp [hk] at this
  · rcases List.mem_cons.mp hk' with rfl | hk'
    · exact le_rfl
    · exact (List.rel_of_pairwise_cons hsorted hk').le

theorem mergedCode_of_none {mask : BitVec 16} {kinds : List EventKind} (h : ∀ k, ¬Shown mask kinds k) :
    mergedCode mask kinds = 0 := by
  have hfind : (EventKind.all.find? fun k => kinds.contains k && !isMasked mask k) = none :=
    List.find?_eq_none.mpr fun k _ hk => h k ((shown_iff mask kinds k).mp hk)
  rw [mergedCode, hfind]

theorem mergedCode_of_least {mask : BitVec 16} {kinds : List EventKind} {k : EventKind} (hk : Shown mask kinds k)
    (hleast : ∀ j, Shown mask kinds j → k.code ≤ j.code) : mergedCode mask kinds = k.code := by
  have hk' := (shown_iff mask kinds k).mpr hk
  obtain ⟨j, hj⟩ := Option.isSome_iff_exists.mp
    (List.find?_isSome (p := fun k => kinds.contains k && !isMasked mask k).mpr ⟨k, k.mem_all, hk'⟩)
  have hshown := List.find?_some (p := fun k => kinds.contains k && !isMasked mask k) hj
  rw [mergedCode, hj]
  exact le_antisymm (find?_all_code_le hj hk') (hleast j ((shown_iff mask kinds j).mp hshown))

/-- A merged code other than 0 shows that some kind is pending and unmasked (R158). -/
theorem mergedCode_ne_zero_iff (mask : BitVec 16) (kinds : List EventKind) :
    mergedCode mask kinds ≠ 0 ↔ ∃ k, Shown mask kinds k := by
  refine ⟨fun hne => ?_, fun ⟨k, hk⟩ hzero => ?_⟩
  · by_contra hnone
    exact hne (mergedCode_of_none (not_exists.mp hnone))
  · have hk' := (shown_iff mask kinds k).mpr hk
    obtain ⟨j, hj⟩ := Option.isSome_iff_exists.mp
      (List.find?_isSome (p := fun k => kinds.contains k && !isMasked mask k).mpr ⟨k, k.mem_all, hk'⟩)
    rw [mergedCode, hj] at hzero
    exact absurd hzero (Nat.one_le_iff_ne_zero.mp (kind_code_le j).1)

theorem faultLow_iff (s : State) :
    s.faultLow = true ↔ ∃ p k, Shown s.events.mask (s.events.kinds.get p) k := by
  simp only [State.faultLow, List.any_eq_true, EventKind.mem_all, true_and, Bool.and_or_distrib_right, Bool.or_eq_true,
    shown_iff]
  refine ⟨fun ⟨k, hk⟩ => hk.elim (fun h => ⟨.a, k, h⟩) fun h => ⟨.b, k, h⟩, ?_⟩
  rintro ⟨p, k, hk⟩
  cases p with
  | a => exact ⟨k, .inl hk⟩
  | b => exact ⟨k, .inr hk⟩

/-- Settles O56. -/
theorem mergedCodeAndFaultLine : Obligations.MergedCodeAndFaultLine :=
  ⟨fun _ _ => ⟨mergedCode_of_none, fun _ => mergedCode_of_least⟩, fun s => by
    simp only [faultLow_iff, mergedCode_ne_zero_iff]⟩

end Sys2Proof.Machine
end

section
/-!
PROOFS. The thermal model (chapter 8): what one thermal expiry writes.
-/

namespace Sys2Proof.Machine

/-! ## The heat input E (R117) -/

theorem heatInput_of_emitting {s : State} {x : Side} {h : Fin 12} {v : Nat}
    (hv : (s.headRec x h).threshold = some v) (hepisode : s.inEpisode x = true) (hhead : (s.chan.get x).head = h)
    (hemitted : s.framer.head.get x = h) (habove : v < s.framer.level.get x) :
    heatInput s x h = (s.framer.level.get x - v) * s.thermal.gain / 16 := by
  rw [heatInput, hv]
  exact if_pos (by simp [hepisode, hhead, hemitted, habove])

theorem heatInput_eq_zero {s : State} {x : Side} {h : Fin 12}
    (hno : s.inEpisode x = false ∨ (s.chan.get x).head ≠ h ∨ s.framer.head.get x ≠ h ∨
      ∀ v, (s.headRec x h).threshold = some v → s.framer.level.get x ≤ v) : heatInput s x h = 0 := by
  cases hv : (s.headRec x h).threshold with
  | none => rw [heatInput, hv]
  | some v =>
    rw [heatInput, hv]
    refine if_neg ?_
    rw [hv] at hno
    rcases hno with hno | hno | hno | hno
    · simp [hno]
    · simp [hno]
    · simp [hno]
    · simp [hno v rfl]

/-! ## The RECOMPUTEs (R100, R119) -/

/-- A RECOMPUTE fills its place, whatever waits there but an ARM. -/
theorem postRecompute_eq {s : State} {x : Side}
    (hplace : (s.chan.get x).state.recomputes = true → s.engine.place.get x ≠ some .arm) :
    postRecompute x s = s.setPlace x
      (if (s.chan.get x).state.recomputes then some .recompute else s.engine.place.get x) := by
  unfold postRecompute
  split
  · next hre =>
    rw [postRequest]
    cases hreq : s.engine.place.get x with
    | none => rfl
    | some c =>
      cases c with
      | recompute => rfl
      | arm => exact absurd hreq (hplace hre)
  · simp [State.setPlace]

/-- The request places once both channels have been looked at. -/
def State.recomputesPosted (s : State) : PerSide (Option ReqClass) :=
  ⟨if s.chan.a.state.recomputes then some .recompute else s.engine.place.a,
    if s.chan.b.state.recomputes then some .recompute else s.engine.place.b⟩

theorem recomputesPosted_get (s : State) (x : Side) : s.recomputesPosted.get x =
    if (s.chan.get x).state = .writing ∨ (s.chan.get x).state = .holding then some .recompute
    else s.engine.place.get x := by
  simp only [← recomputes_iff]
  cases x <;> rfl

theorem postRecompute_both {s : State}
    (hplace : ∀ x, (s.chan.get x).state.recomputes = true → s.engine.place.get x ≠ some .arm) :
    postRecompute .b (postRecompute .a s) = { s with engine := { s.engine with place := s.recomputesPosted } } := by
  rw [postRecompute_eq (hplace .a), postRecompute_eq (by exact hplace .b)]
  rfl

/-- A RECOMPUTE meets no waiting ARM: a channel whose ARM waits is in PENDING. -/
theorem no_arm_of_recomputes {s : State} {x : Side}
    (hplace : s.engine.place.get x ≠ some .arm ∨ s.inEpisode x = false ∨ (s.chan.get x).state = .pending)
    (hre : (s.chan.get x).state.recomputes = true) : s.engine.place.get x ≠ some .arm := by
  rcases hplace with h | h | h
  · exact h
  · rcases (recomputes_iff _).mp hre with hs | hs <;> simp [State.inEpisode, ChanState.inEpisode, hs] at h
  · simp [h, ChanState.recomputes] at hre

/-! ## The expiry -/

/-- The interval counter is due at 0, or at 1 ahead of a frame start that has not been counted yet (R116, R120). -/
theorem thermalExpiry_of_due {s : State} (hc : s.loader.config = .configured)
    (hdue : s.thermal.counter = some 0 ∨
      (s.thermal.counter = some 1 ∧ s.FrameStartNow ∧ s.thermal.takenEarly = false))
    (hplace : ∀ x, s.engine.place.get x ≠ some .arm ∨ s.inEpisode x = false ∨ (s.chan.get x).state = .pending) :
    thermalExpiry s = { s with
      heads := heatHeads s, thermal := reloadInterval s.thermal
      engine := { s.engine with place := s.recomputesPosted } } := by
  have hcond : (s.configured && frameDue s.thermal.counter (s.frameNext && !s.thermal.takenEarly)) = true := by
    rw [Bool.and_eq_true, frameDue_iff, Bool.and_eq_true, s.frameNext_iff]
    exact ⟨by simp [State.configured, hc], hdue.imp_right fun ⟨hone, hnow, htaken⟩ => ⟨hone, hnow, by simp [htaken]⟩⟩
  refine (if_pos hcond).trans
    (postRecompute_both (s := { s with heads := heatHeads s, thermal := reloadInterval s.thermal }) ?_)
  exact fun x => no_arm_of_recomputes (hplace x)

/-- Settles O49. -/
theorem thermalExpiryUpdatesEveryHead : Obligations.ThermalExpiryUpdatesEveryHead := by
  intro s hrst hc hdue hplace
  have hexec : exec .thermalExpiry s = .next (thermalExpiry s) := exec_edge thermalExpiry rfl hrst
  rw [thermalExpiry_of_due hc hdue hplace] at hexec
  refine ⟨_, hexec, fun x h => ⟨heatInput s x h, headRec_heatHeads s x h, ?_, heatInput_eq_zero⟩, fun x => ?_, rfl, rfl⟩
  · exact fun v hv hepisode hhead hemitted habove => heatInput_of_emitting hv hepisode hhead hemitted habove
  · exact recomputesPosted_get s x

end Sys2Proof.Machine
end

section
/-!
PROOFS. The freeze input (section 11.2): what an FRZ rise and an FRZ fall do to each channel, and their records.
-/

namespace Sys2Proof.Machine

/-! ## Leaving without held entries, and the records of one act -/

theorem leaveEpisode_of_none_held {s : State} {x : Side} (hnone : ∀ e ∈ s.held, e.side ≠ x) (d : ChanState)
    (o : EpisodeOutcome) :
    leaveEpisode x d o s = queueReport ((s.chan.get x).report x o)
      (State.setPlace x none (State.setUrgent x true (s.setChan x ((s.chan.get x).left d)))) :=
  releaseHeld_of_none (by simpa using hnone)

/-- With nothing to release, leaving queues the EPISODE record alone (R92). -/
theorem leaveEpisode_quiet {s : State} {x : Side} (hnone : ∀ e ∈ s.held, e.side ≠ x)
    (hroom : s.reports.records.length < 16) (d : ChanState) (o : EpisodeOutcome) :
    (leaveEpisode x d o s).events = s.events ∧
      (leaveEpisode x d o s).reports.records = s.reports.records ++ [(s.chan.get x).report x o] := by
  rw [leaveEpisode_of_none_held hnone, queueReport_of_room (by exact hroom)]
  exact ⟨rfl, rfl⟩

theorem raiseEvent_of_room {s : State} (hroom : s.reports.records.length < 16) (p : Side) (k : EventKind)
    (injected : Bool) : raiseEvent p k injected s = { s with
      events := { s.events with kinds := s.events.kinds.set p (addKind k (s.events.kinds.get p)) }
      reports := { s.reports with records := s.reports.records ++
        [.event p k injected ((s.events.kinds.get p).contains k) (isMasked s.events.mask k)
          (s.chan.get p).episode] } } :=
  queueReport_of_room (by exact hroom) _

/-- A report leaves every pending kind pending. -/
theorem queueReport_kinds_subset (r : Report) (s : State) (q : Side) :
    s.events.kinds.get q ⊆ (queueReport r s).events.kinds.get q := by
  unfold queueReport
  split
  · exact fun _ h => h
  · split
    · exact fun _ h => h
    · intro k hk
      cases q <;> exact mem_addKind.mpr (.inr hk)

theorem raiseEvent_kinds_subset (p : Side) (k : EventKind) (i : Bool) (s : State) (q : Side) :
    s.events.kinds.get q ⊆ (raiseEvent p k i s).events.kinds.get q := by
  refine fun j hj => queueReport_kinds_subset _ _ q ?_
  rcases Side.eq_or_other p q with rfl | rfl
  · exact (PerSide.get_set_same s.events.kinds q (addKind k _)).symm ▸ mem_addKind.mpr (.inr hj)
  · exact (PerSide.get_set_other s.events.kinds p (addKind k _)).symm ▸ hj

theorem mem_kinds_raiseEvent (p : Side) (k : EventKind) (i : Bool) (s : State) :
    k ∈ (raiseEvent p k i s).events.kinds.get p := by
  refine queueReport_kinds_subset _ _ p ?_
  simp only [State.setKinds, PerSide.get_set_same]
  exact mem_addKind.mpr (.inl rfl)

/-! ## The freeze of one channel (R150, R151) -/

/-- A freeze rise ends the episode of a channel that does not write, and under HARD every episode. -/
def State.freezeEnds (s : State) (x : Side) : Bool :=
  s.inEpisode x && ((s.chan.get x).state ≠ .writing || s.freeze.mode = .hard)

/-- What a freeze rise makes of channel `x`, by its state. -/
structure FrozenBy (x : Side) (s t : State) : Prop where
  waits : (s.chan.get x).state = .writing ∧ s.freeze.mode = .soft →
    t.chan.get x = s.chan.get x ∧ t.freeze.wait.get x = true ∧ t.gateOut x = s.gateOut x
  ends : s.freezeEnds x = true →
    t.chan.get x = (s.chan.get x).left .frozen ∧ t.freeze.wait.get x = false ∧
      t.freeze.frozenEpisode.get x = true ∧ t.gateOut x = false ∧ t.framer.urgent.get x = true ∧
      t.engine.place.get x = none ∧ ∀ e ∈ t.held, e.side ≠ x
  parks : (s.chan.get x).state = .idle ∨ (s.chan.get x).state = .faulted →
    t.chan.get x = { s.chan.get x with state := .frozen } ∧ t.framer.urgent.get x = s.framer.urgent.get x
  stays : (s.chan.get x).state = .frozen → t.chan.get x = s.chan.get x

/-- What a freeze of the other channel keeps of channel `y`. -/
structure FreezeApart (y : Side) (s t : State) : Prop where
  chan : t.chan.get y = s.chan.get y
  mode : t.freeze.mode = s.freeze.mode
  wait : t.freeze.wait.get y = s.freeze.wait.get y
  frozenEpisode : t.freeze.frozenEpisode.get y = s.freeze.frozenEpisode.get y
  urgent : t.framer.urgent.get y = s.framer.urgent.get y
  place : t.engine.place.get y = s.engine.place.get y
  gates : t.gates = s.gates
  held : t.held ⊆ s.held

theorem FreezeApart.gateOut {y : Side} {s t : State} (h : FreezeApart y s t) : t.gateOut y = s.gateOut y := by
  rw [State.gateOut, State.gateOut, h.gates, h.chan]

theorem FreezeApart.freezeEnds {y : Side} {s t : State} (h : FreezeApart y s t) : t.freezeEnds y = s.freezeEnds y := by
  rw [State.freezeEnds, State.freezeEnds, State.inEpisode, State.inEpisode, h.chan, h.mode]

/-- A channel is frozen as it was found, when the other channel was looked at first. -/
theorem FreezeApart.then_frozen {x : Side} {s t u : State} (h : FreezeApart x s t) (hu : FrozenBy x t u) :
    FrozenBy x s u where
  waits := by rw [← h.chan, ← h.mode, ← h.gateOut]; exact hu.waits
  ends := by rw [← h.freezeEnds, ← h.chan]; exact hu.ends
  parks := by rw [← h.chan, ← h.urgent]; exact hu.parks
  stays := by rw [← h.chan]; exact hu.stays

/-- A channel stays frozen as it is, when the other channel is looked at next. -/
theorem FrozenBy.then_apart {x : Side} {s t u : State} (h : FrozenBy x s t) (hu : FreezeApart x t u) :
    FrozenBy x s u where
  waits := by rw [hu.chan, hu.wait, hu.gateOut]; exact h.waits
  ends hends := by
    obtain ⟨hchan, hwait, hflag, hgate, hurgent, hplace, hheld⟩ := h.ends hends
    exact ⟨hu.chan.trans hchan, hu.wait.trans hwait, hu.frozenEpisode.trans hflag, hu.gateOut.trans hgate,
      hu.urgent.trans hurgent, hu.place.trans hplace, fun e he => hheld e (hu.held he)⟩
  parks := by rw [hu.chan, hu.urgent]; exact h.parks
  stays := by rw [hu.chan]; exact h.stays

/-- The three branches of a freeze, as they meet the tests of R150 and R151. -/
theorem freezeChannel_of_waiting {s : State} {x : Side}
    (h : (s.chan.get x).state = .writing ∧ s.freeze.mode = .soft) :
    freezeChannel x s = { s with freeze := { s.freeze with wait := s.freeze.wait.set x true } } := by
  rw [freezeChannel_eq, if_pos h]

theorem freezeEnds_iff {s : State} (hmode : s.freeze.mode ≠ .run) (x : Side) :
    s.freezeEnds x = true ↔ s.inEpisode x = true ∧ ¬((s.chan.get x).state = .writing ∧ s.freeze.mode = .soft) := by
  cases hm : s.freeze.mode with
  | run => exact absurd hm hmode
  | soft => simp [State.freezeEnds, hm]
  | hard => simp [State.freezeEnds, hm]

theorem freezeChannel_of_ending {s : State} {x : Side} (hmode : s.freeze.mode ≠ .run) (h : s.freezeEnds x = true) :
    freezeChannel x s = { leaveEpisode x .frozen .frozen s with freeze := { s.freeze with
      wait := s.freeze.wait.set x false, frozenEpisode := s.freeze.frozenEpisode.set x true } } := by
  obtain ⟨hepisode, hnot⟩ := (freezeEnds_iff hmode x).mp h
  rw [freezeChannel_eq, if_neg hnot, if_pos hepisode]

theorem freezeChannel_of_outside {s : State} {x : Side} (h : s.inEpisode x = false) :
    freezeChannel x s = { s with chan := s.chan.set x { s.chan.get x with state := .frozen } } := by
  have hnot : ¬((s.chan.get x).state = .writing ∧ s.freeze.mode = .soft) := by
    rintro ⟨hwriting, -⟩
    simp [State.inEpisode, hwriting, ChanState.inEpisode] at h
  rw [freezeChannel_eq, if_neg hnot, if_neg (by simp [h])]

/-- One of the three branches is taken. -/
theorem freeze_branches {s : State} (hmode : s.freeze.mode ≠ .run) (x : Side) :
    ((s.chan.get x).state = .writing ∧ s.freeze.mode = .soft) ∨ s.freezeEnds x = true ∨ s.inEpisode x = false := by
  rw [freezeEnds_iff hmode, ← Bool.not_eq_true]
  tauto

theorem freezeChannel_frozenBy {s : State} (hmode : s.freeze.mode ≠ .run) (x : Side) :
    FrozenBy x s (freezeChannel x s) where
  waits h := by
    rw [freezeChannel_of_waiting h]
    exact ⟨rfl, PerSide.get_set_same _ _ _, rfl⟩
  ends h := by
    rw [freezeChannel_of_ending hmode h]
    have hchan : (leaveEpisode x .frozen .frozen s).chan.get x = (s.chan.get x).left .frozen := by
      rw [leaveEpisode_chan_eq, PerSide.get_set_same]
    refine ⟨hchan, PerSide.get_set_same _ _ _, PerSide.get_set_same _ _ _, ?_, ?_, ?_, ?_⟩
    · rw [State.gateOut, hchan]
      simp [Channel.left]
    · simp [leaveEpisode_urgent_eq]
    · simp [leaveEpisode_place_eq]
    · simp [leaveEpisode_held_eq]
  parks h := by
    have hout : s.inEpisode x = false := by rcases h with h | h <;> simp [State.inEpisode, h, ChanState.inEpisode]
    rw [freezeChannel_of_outside hout]
    exact ⟨PerSide.get_set_same _ _ _, rfl⟩
  stays h := by
    rw [freezeChannel_of_outside (by simp [State.inEpisode, h, ChanState.inEpisode]), PerSide.get_set_same, ← h]

theorem freezeChannel_apart {s : State} (hmode : s.freeze.mode ≠ .run) (x : Side) :
    FreezeApart x.other s (freezeChannel x s) := by
  rcases freeze_branches hmode x with h | h | h
  · rw [freezeChannel_of_waiting h]
    exact ⟨rfl, rfl, PerSide.get_set_other _ _ _, rfl, rfl, rfl, rfl, fun _ he => he⟩
  · rw [freezeChannel_of_ending hmode h]
    refine ⟨?_, rfl, PerSide.get_set_other _ _ _, PerSide.get_set_other _ _ _, ?_, ?_, leaveEpisode_gates .., ?_⟩
    · simp [leaveEpisode_chan_eq]
    · simp [leaveEpisode_urgent_eq]
    · simp [leaveEpisode_place_eq]
    · simp [leaveEpisode_held_eq]
  · rw [freezeChannel_of_outside h]
    exact ⟨PerSide.get_set_other _ _ _, rfl, rfl, rfl, rfl, rfl, rfl, fun _ he => he⟩

/-- With room and nothing to release, a freeze queues the EPISODE record of the episode it ends. -/
theorem freezeChannel_quiet {s : State} (hmode : s.freeze.mode ≠ .run) (x : Side)
    (hroom : s.reports.records.length < 16) (hheld : s.freezeEnds x = true → ∀ e ∈ s.held, e.side ≠ x) :
    (freezeChannel x s).events = s.events ∧ (freezeChannel x s).reports.records = s.reports.records ++
      if s.freezeEnds x then [(s.chan.get x).report x .frozen] else [] := by
  by_cases hends : s.freezeEnds x = true
  · rw [freezeChannel_of_ending hmode hends, if_pos hends]
    exact leaveEpisode_quiet (hheld hends) hroom .frozen .frozen
  · rw [if_neg hends, List.append_nil]
    rcases freeze_branches hmode x with h | h | h
    · rw [freezeChannel_of_waiting h]
      exact ⟨rfl, rfl⟩
    · exact absurd h hends
    · rw [freezeChannel_of_outside h]
      exact ⟨rfl, rfl⟩

section

variable {s : State} (hmode : s.freeze.mode ≠ .run)
include hmode

/-- Each channel is frozen as the rise found it: A is looked at first, B next. -/
theorem freezeBoth_frozenBy (x : Side) : FrozenBy x s (freezeChannel .b (freezeChannel .a s)) := by
  have hmode' : (freezeChannel .a s).freeze.mode ≠ .run := by rwa [freezeChannel_freeze_mode]
  cases x with
  | a => exact (freezeChannel_frozenBy hmode .a).then_apart (freezeChannel_apart hmode' .b)
  | b => exact (freezeChannel_apart hmode .a).then_frozen (freezeChannel_frozenBy hmode' .b)

theorem freezeBoth_quiet (hroom : s.reports.records.length ≤ 14) (hheld : ∀ e ∈ s.held, s.freezeEnds e.side = false) :
    (freezeChannel .b (freezeChannel .a s)).events = s.events ∧
      (freezeChannel .b (freezeChannel .a s)).reports.records = s.reports.records ++
        (if s.freezeEnds .a then [s.chan.a.report .a .frozen] else []) ++
        (if s.freezeEnds .b then [s.chan.b.report .b .frozen] else []) := by
  have hnone : ∀ x, s.freezeEnds x = true → ∀ e ∈ s.held, e.side ≠ x := by
    rintro x hends e he rfl
    simp [hheld e he] at hends
  have hapart : FreezeApart .b s (freezeChannel .a s) := freezeChannel_apart hmode .a
  have hmode' : (freezeChannel .a s).freeze.mode ≠ .run := by rwa [freezeChannel_freeze_mode]
  obtain ⟨heventsA, hrecordsA⟩ := freezeChannel_quiet hmode .a (by omega) (hnone .a)
  have hroom' : (freezeChannel .a s).reports.records.length < 16 := by
    rw [hrecordsA, List.length_append]
    split <;> simp <;> omega
  obtain ⟨heventsB, hrecordsB⟩ := freezeChannel_quiet hmode' .b hroom'
    fun hends e he => hnone .b (hapart.freezeEnds ▸ hends) e (hapart.held he)
  refine ⟨heventsB.trans heventsA, ?_⟩
  rw [hrecordsB, hrecordsA, hapart.freezeEnds, hapart.chan]
  rfl

end

/-! ## The release of one channel (R151, R153) -/

/-- A released channel: the shadow's arm decides between FAULTED and IDLE (R153). -/
def State.freed (x : Side) (s : State) : State :=
  { s with chan := s.chan.set x { s.chan.get x with
    state := if (s.shadow.get x).arm = .set then .faulted else .idle } }

theorem thawChannel_of_marked {s : State} {x : Side} (hfrozen : (s.chan.get x).state = .frozen)
    (hflag : s.freeze.frozenEpisode.get x = true) :
    thawChannel x s = raiseEvent x .frozenEpisode false { s.freed x with
      freeze := { s.freeze with frozenEpisode := s.freeze.frozenEpisode.set x false } } :=
  (thawChannel_eq x s).trans ((if_pos hfrozen).trans (if_pos hflag))

theorem thawChannel_of_unmarked {s : State} {x : Side} (hfrozen : (s.chan.get x).state = .frozen)
    (hflag : s.freeze.frozenEpisode.get x = false) : thawChannel x s = s.freed x :=
  (thawChannel_eq x s).trans ((if_pos hfrozen).trans (if_neg (by simp [hflag])))

theorem thawChannel_of_not_frozen {s : State} {x : Side} (h : (s.chan.get x).state ≠ .frozen) :
    thawChannel x s = { s with freeze := { s.freeze with wait := s.freeze.wait.set x false } } :=
  (thawChannel_eq x s).trans (if_neg h)

/-- The three branches of a freeze release. -/
theorem thaw_branches (s : State) (x : Side) :
    ((s.chan.get x).state = .frozen ∧ s.freeze.frozenEpisode.get x = true) ∨
      ((s.chan.get x).state = .frozen ∧ s.freeze.frozenEpisode.get x = false) ∨ (s.chan.get x).state ≠ .frozen := by
  rw [← Bool.not_eq_true]
  tauto

/-- What a freeze release makes of channel `x`. -/
structure ThawedBy (x : Side) (s t : State) : Prop where
  frees : (s.chan.get x).state = .frozen →
    t.chan.get x = { s.chan.get x with state := if (s.shadow.get x).arm = .set then .faulted else .idle } ∧
      t.freeze.frozenEpisode.get x = false ∧
      (s.freeze.frozenEpisode.get x = true → .frozenEpisode ∈ t.events.kinds.get x)
  keeps : (s.chan.get x).state ≠ .frozen → t.chan.get x = s.chan.get x ∧ t.freeze.wait.get x = false

/-- What a release of the other channel keeps of channel `y`. -/
structure ThawApart (y : Side) (s t : State) : Prop where
  chan : t.chan.get y = s.chan.get y
  shadow : t.shadow = s.shadow
  wait : t.freeze.wait.get y = s.freeze.wait.get y
  frozenEpisode : t.freeze.frozenEpisode.get y = s.freeze.frozenEpisode.get y
  kinds : s.events.kinds.get y ⊆ t.events.kinds.get y

theorem ThawApart.then_thawed {x : Side} {s t u : State} (h : ThawApart x s t) (hu : ThawedBy x t u) :
    ThawedBy x s u where
  frees := by rw [← h.chan, ← h.shadow, ← h.frozenEpisode]; exact hu.frees
  keeps := by rw [← h.chan]; exact hu.keeps

theorem ThawedBy.then_apart {x : Side} {s t u : State} (h : ThawedBy x s t) (hu : ThawApart x t u) :
    ThawedBy x s u where
  frees hfrozen := by
    obtain ⟨hchan, hflag, hkind⟩ := h.frees hfrozen
    exact ⟨hu.chan.trans hchan, hu.frozenEpisode.trans hflag, fun hf => hu.kinds (hkind hf)⟩
  keeps hother := by rw [hu.chan, hu.wait]; exact h.keeps hother

theorem thawChannel_thawedBy (x : Side) (s : State) : ThawedBy x s (thawChannel x s) where
  frees h := by
    refine ⟨?_, ?_, fun hflag => ?_⟩
    · rw [thawChannel_chan_eq, PerSide.get_set_same, if_pos h]
    · rw [thawChannel_freeze_eq, if_pos h]
      split
      · exact PerSide.get_set_same _ _ _
      · next hflag => simpa using hflag
    · rw [thawChannel_of_marked h hflag]
      exact mem_kinds_raiseEvent ..
  keeps h := by
    rw [thawChannel_chan_eq, thawChannel_freeze_eq, PerSide.get_set_same, if_neg h, if_neg h]
    exact ⟨rfl, PerSide.get_set_same _ _ _⟩

theorem thawChannel_apart (x : Side) (s : State) : ThawApart x.other s (thawChannel x s) := by
  rcases thaw_branches s x with ⟨hfrozen, hflag⟩ | ⟨hfrozen, hflag⟩ | hother
  · rw [thawChannel_of_marked hfrozen hflag]
    refine ⟨?_, ?_, ?_, ?_, raiseEvent_kinds_subset x .frozenEpisode false { s.freed x with
      freeze := { s.freeze with frozenEpisode := s.freeze.frozenEpisode.set x false } } x.other⟩
    · rw [raiseEvent_chan]
      exact PerSide.get_set_other _ _ _
    · rw [raiseEvent_shadow]
      rfl
    · rw [raiseEvent_freeze]
    · rw [raiseEvent_freeze]
      exact PerSide.get_set_other _ _ _
  · rw [thawChannel_of_unmarked hfrozen hflag]
    exact ⟨PerSide.get_set_other _ _ _, rfl, rfl, rfl, fun _ h => h⟩
  · rw [thawChannel_of_not_frozen hother]
    exact ⟨rfl, rfl, PerSide.get_set_other _ _ _, rfl, fun _ h => h⟩

/-- The EVENT record of a release: a FROZEN channel with its frozen-episode flag set (R153). -/
def State.thawReports (s : State) (x : Side) : List Report :=
  if (s.chan.get x).state = .frozen ∧ s.freeze.frozenEpisode.get x = true then
    [Report.event x .frozenEpisode false ((s.events.kinds.get x).contains .frozenEpisode)
      (isMasked s.events.mask .frozenEpisode) (s.chan.get x).episode]
  else []

theorem thawReports_length (s : State) (x : Side) : (s.thawReports x).length ≤ 1 := by
  unfold State.thawReports
  split <;> simp

theorem thawChannel_quiet {s : State} (x : Side) (hroom : s.reports.records.length < 16) :
    (thawChannel x s).events.kinds.get x.other = s.events.kinds.get x.other ∧
      (thawChannel x s).reports.records = s.reports.records ++ s.thawReports x := by
  rcases thaw_branches s x with ⟨hfrozen, hflag⟩ | ⟨hfrozen, hflag⟩ | hother
  · rw [thawChannel_of_marked hfrozen hflag, State.thawReports, if_pos ⟨hfrozen, hflag⟩,
      raiseEvent_of_room (by exact hroom)]
    exact ⟨PerSide.get_set_other _ _ _, by simp [State.freed]⟩
  · rw [thawChannel_of_unmarked hfrozen hflag, State.thawReports, if_neg (by simp [hflag]), List.append_nil]
    exact ⟨rfl, rfl⟩
  · rw [thawChannel_of_not_frozen hother, State.thawReports, if_neg fun h => hother h.1, List.append_nil]
    exact ⟨rfl, rfl⟩

theorem thawBoth_thawedBy (s : State) (x : Side) : ThawedBy x s (thawChannel .b (thawChannel .a s)) := by
  cases x with
  | a => exact (thawChannel_thawedBy .a s).then_apart (thawChannel_apart .b _)
  | b => exact (thawChannel_apart .a s).then_thawed (thawChannel_thawedBy .b _)

theorem thawBoth_records {s : State} (hroom : s.reports.records.length ≤ 14) :
    (thawChannel .b (thawChannel .a s)).reports.records =
      s.reports.records ++ s.thawReports .a ++ s.thawReports .b := by
  obtain ⟨hkinds, hrecords⟩ := thawChannel_quiet (s := s) .a (by omega)
  have hapart : ThawApart .b s (thawChannel .a s) := thawChannel_apart .a s
  have hroom' : (thawChannel .a s).reports.records.length < 16 := by
    have := thawReports_length s .a
    rw [hrecords, List.length_append]
    omega
  have hsame : (thawChannel .a s).thawReports .b = s.thawReports .b := by
    have hkinds' : (thawChannel .a s).events.kinds.get .b = s.events.kinds.get .b := hkinds
    rw [State.thawReports, State.thawReports, hapart.chan, hapart.frozenEpisode, hkinds', thawChannel_events_mask]
  rw [(thawChannel_quiet .b hroom').2, hrecords, hsame]

/-! ## The obligation -/

theorem exec_frzRise_delivered {s : State} (hrst : s.rst = false) (hc : s.loader.config = .configured)
    (hdue : EdgeDue s.gates.q s.gates.frz true) : exec .frzRise s = .next (freezeRise (s.setFrzGate true)) :=
  (exec_edge frzRise rfl hrst).trans (congrArg _ (takeEdge_of_configured hdue hc))

theorem exec_frzFall_delivered {s : State} (hrst : s.rst = false) (hc : s.loader.config = .configured)
    (hdue : EdgeDue s.gates.q s.gates.frz false) : exec .frzFall s = .next (freezeFall (s.setFrzGate false)) :=
  (exec_edge frzFall rfl hrst).trans (congrArg _ (takeEdge_of_configured hdue hc))

/-- The state in which a freeze rise looks at the channels. -/
def State.freezing (s : State) : State := { s.setFrzGate true with freeze := { s.freeze with active := true } }

/-- The state in which a freeze release looks at the channels. -/
def State.thawing (s : State) : State := { s.setFrzGate false with freeze := { s.freeze with active := false } }

/-- Settles O44. -/
theorem freezeRisesAndFalls : Obligations.FreezeRisesAndFalls := by
  intro s hrst hc
  refine ⟨fun hdue => ?_, fun hdue => ?_⟩
  · have hexec := exec_frzRise_delivered hrst hc hdue
    have hfreeze : s.freeze.mode ≠ .run →
        exec .frzRise s = .next (freezeChannel .b (freezeChannel .a s.freezing)) :=
      fun hmode => hexec.trans (congrArg _ (if_neg hmode))
    intro s1 act
    have hact : ∀ x u, u.freeze.mode = s.freeze.mode → freezeChannel x u = act x u := by
      intro x u hmode
      rw [freezeChannel_eq, hmode]
    refine ⟨fun hrun => hexec.trans (congrArg _ (if_pos hrun)), fun hmode => ?_, fun hmode => ?_⟩
    · rw [hfreeze hmode, hact .b _ (freezeChannel_freeze_mode .a s.freezing), hact .a s.freezing rfl]
      rfl
    · refine ⟨_, hfreeze hmode, by simp [State.freezing], by simp [State.freezing], by simp [State.freezing],
        fun hroom hheld => freezeBoth_quiet (s := s.freezing) hmode hroom hheld, fun x => ?_⟩
      have h := freezeBoth_frozenBy (s := s.freezing) hmode x
      exact ⟨h.waits, h.ends, h.parks, h.stays⟩
  · have hexec := exec_frzFall_delivered hrst hc hdue
    have hthaw : s.freeze.active = true →
        exec .frzFall s = .next (thawChannel .b (thawChannel .a s.thawing)) :=
      fun hactive => hexec.trans (congrArg _ (if_pos hactive))
    intro s1 release
    have hrelease : ∀ x u, u.shadow = s.shadow → thawChannel x u = release x u := by
      intro x u hshadow
      have harm : (u.shadow.get x).arm = (s.shadow.get x).arm := by rw [hshadow]
      rw [thawChannel_eq, harm]
    refine ⟨fun hidle => hexec.trans (congrArg _ (if_neg (by simp [hidle]))), fun hactive => ?_, fun hactive => ?_⟩
    · rw [hthaw hactive, hrelease .b _ (thawChannel_shadow .a s.thawing), hrelease .a s.thawing rfl]
      rfl
    · refine ⟨_, hthaw hactive, by simp [State.thawing], by simp [State.thawing], by simp [State.thawing],
        by simp [State.thawing], by simp [State.thawing], by simp [State.thawing], by simp [State.thawing],
        by simp [State.thawing], fun hroom => thawBoth_records (s := s.thawing) hroom, fun x => ?_⟩
      have h := thawBoth_thawedBy s.thawing x
      exact ⟨h.frees, h.keeps⟩

end Sys2Proof.Machine
end

section
/-!
PROOFS. The load port (section 13.1): LOAD_PORT_ARMED, LOAD_N_FALL and LOAD_WORD, and what a reload ends.
-/

namespace Sys2Proof.Machine

/-! ## Leaving does not see the other channel -/

theorem queueReport_modChan (r : Report) (y : Side) (f : Channel → Channel) (s : State) :
    queueReport r (s.modChan y f) = (queueReport r s).modChan y f := by
  unfold queueReport
  rw [show (s.modChan y f).reports = s.reports from rfl]
  by_cases hroom : s.reports.records.length < Config.reportCapacity
  · rw [if_pos hroom, if_pos hroom]
    rfl
  · rw [if_neg hroom, if_neg hroom]
    by_cases hoverflow : r.isOverflow = true
    · rw [if_pos hoverflow, if_pos hoverflow]
    · rw [if_neg hoverflow, if_neg hoverflow]
      rfl

section

variable {f : Channel → Channel} (hf : ∀ c, (f c).episode = c.episode)
include hf

theorem captureCode_modChan (x : Side) (h : Fin 12) (n : CodeName) (v : Nat) (y : Side) (s : State) :
    captureCode x h n v (s.modChan y f) = (captureCode x h n v s).modChan y f := by
  rcases Nat.lt_or_ge (s.headRec x h).image.ceiling v with hlt | hle
  · rw [captureCode_of_ceiling_lt n hlt, captureCode_of_ceiling_lt (s := s.modChan y f) n hlt]
    exact raiseEvent_modChan x .setpointClamp false y f hf (s.setHead x h _)
  · rw [captureCode_of_le_ceiling n hle, captureCode_of_le_ceiling (s := s.modChan y f) n hle]
    rfl

theorem captureEntries_modChan (l : List HeldEntry) (y : Side) (s : State) :
    l.foldl captureEntry (s.modChan y f) = (l.foldl captureEntry s).modChan y f := by
  induction l generalizing s with
  | nil => rfl
  | cons e l ih =>
    have hentry : captureEntry (s.modChan y f) e = (captureEntry s e).modChan y f :=
      captureCode_modChan hf e.side e.head _ _ y s
    rw [List.foldl_cons, List.foldl_cons, hentry, ih]

theorem releaseHeld_modChan (p y : Side) (s : State) :
    releaseHeld p (s.modChan y f) = (releaseHeld p s).modChan y f := by
  rw [releaseHeld_eq, releaseHeld_eq]
  exact congrArg (State.withLink _)
    (captureEntries_modChan hf (s.held.filter fun e => e.side = p) y (s.setHeld (s.held.filter fun e => e.side ≠ p)))

/-- Leaving an episode and a change of the other channel that keeps its episode number commute. -/
theorem leaveEpisode_modChan_other (x : Side) (d : ChanState) (o : EpisodeOutcome) (s : State) :
    leaveEpisode x d o (s.modChan x.other f) = (leaveEpisode x d o s).modChan x.other f := by
  have hmine : (s.modChan x.other f).chan.get x = s.chan.get x := PerSide.get_other_set _ _ _
  have hleft : State.setPlace x none (State.setUrgent x true
      ((s.modChan x.other f).setChan x ((s.chan.get x).left d))) =
      (State.setPlace x none (State.setUrgent x true (s.setChan x ((s.chan.get x).left d)))).modChan x.other f := by
    cases x <;> rfl
  unfold leaveEpisode
  dsimp only
  rw [hmine, hleft, queueReport_modChan, releaseHeld_modChan hf]

end

/-! ## The end of both episodes (R97) -/

/-- A channel in IDLE, with the rest of it kept (R97). -/
def Channel.toIdle (c : Channel) : Channel := { c with state := .idle }

/-- A reload ends the episode of a channel that has one. -/
def reloadEnded (x : Side) (s : State) : State := if s.inEpisode x then leaveEpisode x .idle .reload s else s

theorem reloadEnded_of_episode {s : State} {x : Side} (h : s.inEpisode x = true) :
    reloadEnded x s = leaveEpisode x .idle .reload s := if_pos h

theorem reloadEnded_of_none {s : State} {x : Side} (h : s.inEpisode x = false) : reloadEnded x s = s :=
  if_neg (by simp [h])

theorem reloadChannel_eq (x : Side) (s : State) : reloadChannel x s = (reloadEnded x s).modChan x Channel.toIdle := by
  cases hin : s.inEpisode x with
  | true =>
    have hidle : Channel.toIdle ((leaveEpisode x .idle .reload s).chan.get x) =
        (leaveEpisode x .idle .reload s).chan.get x := by
      rw [leaveEpisode_chan_eq, PerSide.get_set_same]
      rfl
    rw [reloadChannel, if_pos hin, reloadEnded_of_episode hin, State.modChan, hidle, State.setChan, PerSide.set_get]
  | false =>
    rw [reloadChannel, reloadEnded_of_none hin, if_neg (by simp [hin])]
    rfl

theorem reloadEnded_inEpisode_other (x : Side) (s : State) :
    (reloadEnded x s).inEpisode x.other = s.inEpisode x.other := by
  unfold reloadEnded
  split
  · rw [State.inEpisode, leaveEpisode_chan_eq, PerSide.get_set_other]
    rfl
  · rfl

theorem reloadEnded_modChan_other (x : Side) (s : State) :
    reloadEnded x (s.modChan x.other Channel.toIdle) = (reloadEnded x s).modChan x.other Channel.toIdle := by
  have hin : (s.modChan x.other Channel.toIdle).inEpisode x = s.inEpisode x :=
    congrArg (fun c : Channel => c.state.inEpisode) (PerSide.get_other_set s.chan x _)
  unfold reloadEnded
  rw [hin]
  split
  · exact leaveEpisode_modChan_other (f := Channel.toIdle) (fun _ => rfl) x .idle .reload s
  · rfl

/-- The state in which a reload from CONFIGURED leaves all but the channels: A's episode ended, and then B's. -/
def State.bothEnded (s : State) : State := reloadEnded .b (reloadEnded .a s)

theorem reloadChannels_eq (s : State) : reloadChannel .b (reloadChannel .a s) =
    (s.bothEnded.modChan .a Channel.toIdle).modChan .b Channel.toIdle := by
  rw [reloadChannel_eq .b, reloadChannel_eq .a]
  exact congrArg (fun u => State.modChan .b Channel.toIdle u) (reloadEnded_modChan_other .b (reloadEnded .a s))

/-- Both ends together, as the reload found the channels. -/
theorem bothEnded_eq (s : State) : s.bothEnded =
    if s.inEpisode .b then leaveEpisode .b .idle .reload (reloadEnded .a s) else reloadEnded .a s := by
  have hin : (reloadEnded .a s).inEpisode .b = s.inEpisode .b := reloadEnded_inEpisode_other .a s
  rw [State.bothEnded, reloadEnded, hin]

/-! ## What the ends leave -/

section

variable (x : Side) (s : State)

theorem reloadEnded_keeps {P : State → Prop} (hs : P s) (hleave : P (leaveEpisode x .idle .reload s)) :
    P (reloadEnded x s) := by
  unfold reloadEnded
  split
  · exact hleave
  · exact hs

theorem reloadEnded_held_subset : (reloadEnded x s).held ⊆ s.held :=
  reloadEnded_keeps x s (P := fun t => t.held ⊆ s.held) (fun _ h => h) (by simp [leaveEpisode_held_eq])

theorem reloadEnded_engine :
    (reloadEnded x s).engine = { s.engine with place := (reloadEnded x s).engine.place } :=
  reloadEnded_keeps x s (P := fun t => t.engine = { s.engine with place := t.engine.place }) rfl
    (by rw [leaveEpisode_engine])

theorem reloadEnded_gates : (reloadEnded x s).gates = s.gates :=
  reloadEnded_keeps x s (P := fun t => t.gates = s.gates) rfl (by simp)

theorem reloadEnded_budget : (reloadEnded x s).budget = s.budget :=
  reloadEnded_keeps x s (P := fun t => t.budget = s.budget) rfl (by simp)

theorem reloadEnded_dwellLimit : (reloadEnded x s).dwellLimit = s.dwellLimit :=
  reloadEnded_keeps x s (P := fun t => t.dwellLimit = s.dwellLimit) rfl (by simp)

theorem reloadEnded_earlyPolicy : (reloadEnded x s).earlyPolicy = s.earlyPolicy :=
  reloadEnded_keeps x s (P := fun t => t.earlyPolicy = s.earlyPolicy) rfl (by simp)

theorem reloadEnded_events_mask : (reloadEnded x s).events.mask = s.events.mask :=
  reloadEnded_keeps x s (P := fun t => t.events.mask = s.events.mask) rfl (by simp)

theorem reloadEnded_freeze_mode : (reloadEnded x s).freeze.mode = s.freeze.mode :=
  reloadEnded_keeps x s (P := fun t => t.freeze.mode = s.freeze.mode) rfl (by simp)

theorem reloadEnded_thermal : (reloadEnded x s).thermal = s.thermal :=
  reloadEnded_keeps x s (P := fun t => t.thermal = s.thermal) rfl (by simp)

/-- What the end of one channel's episode keeps of the other channel. -/
theorem reloadEnded_other : (reloadEnded x s).chan.get x.other = s.chan.get x.other ∧
    (reloadEnded x s).framer.urgent.get x.other = s.framer.urgent.get x.other ∧
    (reloadEnded x s).engine.place.get x.other = s.engine.place.get x.other :=
  reloadEnded_keeps x s (P := fun t => t.chan.get x.other = s.chan.get x.other ∧
    t.framer.urgent.get x.other = s.framer.urgent.get x.other ∧
    t.engine.place.get x.other = s.engine.place.get x.other) ⟨rfl, rfl, rfl⟩
    (by simp [leaveEpisode_chan_eq, leaveEpisode_urgent_eq, leaveEpisode_place_eq])

end

/-- An episode that a reload ends leaves no held entry, no request and an urgent OFF (R92). -/
def EndedClean (x : Side) (t : State) : Prop :=
  (∀ e ∈ t.held, e.side ≠ x) ∧ t.framer.urgent.get x = true ∧ t.engine.place.get x = none

theorem reloadEnded_clean {x : Side} {s : State} (h : s.inEpisode x = true) : EndedClean x (reloadEnded x s) := by
  rw [reloadEnded_of_episode h]
  refine ⟨?_, ?_, ?_⟩
  · simp [leaveEpisode_held_eq]
  · simp [leaveEpisode_urgent_eq]
  · simp [leaveEpisode_place_eq]

theorem bothEnded_clean {x : Side} {s : State} (h : s.inEpisode x = true) : EndedClean x s.bothEnded := by
  cases x with
  | a =>
    obtain ⟨hheld, hurgent, hplace⟩ := reloadEnded_clean h
    obtain ⟨-, hurgentB, hplaceB⟩ := reloadEnded_other .b (reloadEnded .a s)
    exact ⟨fun e he => hheld e (reloadEnded_held_subset .b _ he), hurgentB.trans hurgent, hplaceB.trans hplace⟩
  | b => exact reloadEnded_clean ((reloadEnded_inEpisode_other .a s).trans h)

/-! ## The records of a reload -/

theorem reloadEnded_quiet {x : Side} {s : State} (hroom : s.reports.records.length < 16)
    (hheld : s.inEpisode x = true → ∀ e ∈ s.held, e.side ≠ x) :
    (reloadEnded x s).reports.records =
      s.reports.records ++ if s.inEpisode x then [(s.chan.get x).report x .reload] else [] := by
  cases hin : s.inEpisode x with
  | true =>
    rw [reloadEnded_of_episode hin]
    exact (leaveEpisode_quiet (hheld hin) hroom .idle .reload).2
  | false =>
    rw [reloadEnded_of_none hin]
    exact (List.append_nil _).symm

theorem bothEnded_quiet {s : State} (hroom : s.reports.records.length ≤ 14)
    (hheld : ∀ e ∈ s.held, s.inEpisode e.side = false) :
    s.bothEnded.reports.records = s.reports.records ++
      (if s.inEpisode .a then [s.chan.a.report .a .reload] else []) ++
      (if s.inEpisode .b then [s.chan.b.report .b .reload] else []) := by
  have hnone : ∀ x, s.inEpisode x = true → ∀ e ∈ s.held, e.side ≠ x := by
    rintro x hin e he rfl
    simp [hheld e he] at hin
  have hin : (reloadEnded .a s).inEpisode .b = s.inEpisode .b := reloadEnded_inEpisode_other .a s
  have hchan : (reloadEnded .a s).chan.get .b = s.chan.b := (reloadEnded_other .a s).1
  have hrecords := reloadEnded_quiet (x := .a) (by omega) (hnone .a)
  have hroom' : (reloadEnded .a s).reports.records.length < 16 := by
    rw [hrecords, List.length_append]
    split <;> simp <;> omega
  rw [State.bothEnded, reloadEnded_quiet hroom' fun h e he => hnone .b (hin ▸ h) e (reloadEnded_held_subset .a s he),
    hrecords, hin, hchan]
  rfl

/-! ## The head records under a reload (R42, R97) -/

theorem captureEntries_headRec (l : List HeldEntry) {x : Side} {h : Fin 12} (hl : ∀ e ∈ l, ¬(e.side = x ∧ e.head = h))
    (s : State) : (l.foldl captureEntry s).headRec x h = s.headRec x h := by
  induction l generalizing s with
  | nil => rfl
  | cons e l ih =>
    have hentry : (captureEntry s e).headRec x h = s.headRec x h := by
      refine (captureCode_headRec ..).trans (if_neg ?_)
      rintro ⟨hx, hh⟩
      exact hl e List.mem_cons_self ⟨hx.symm, hh.symm⟩
    rw [List.foldl_cons, ih (fun e he => hl e (List.mem_cons_of_mem _ he)), hentry]

theorem leaveEpisode_headRec {s : State} {x y : Side} {h : Fin 12}
    (hnone : ∀ e ∈ s.held, e.side = y → ¬(e.side = x ∧ e.head = h)) (d : ChanState) (o : EpisodeOutcome) :
    (leaveEpisode y d o s).headRec x h = s.headRec x h := by
  unfold leaveEpisode
  dsimp only
  rw [releaseHeld_eq]
  refine (captureEntries_headRec _ ?_ _).trans ?_
  · intro e he
    simp only [queueReport_held, List.mem_filter, decide_eq_true_eq] at he
    exact hnone e he.1 he.2
  · exact headRec_congr (by simp) x h

theorem reloadEnded_headRec {s : State} {x y : Side} {h : Fin 12}
    (hnone : ∀ e ∈ s.held, ¬(e.side = x ∧ e.head = h ∧ s.inEpisode x = true)) :
    (reloadEnded y s).headRec x h = s.headRec x h := by
  cases hin : s.inEpisode y with
  | true =>
    rw [reloadEnded_of_episode hin]
    refine leaveEpisode_headRec (fun e he hside => ?_) .idle .reload
    rintro ⟨rfl, hh⟩
    exact hnone e he ⟨rfl, hh, hside ▸ hin⟩
  | false => rw [reloadEnded_of_none hin]

theorem bothEnded_headRec {s : State} {x : Side} {h : Fin 12}
    (hnone : ∀ e ∈ s.held, ¬(e.side = x ∧ e.head = h ∧ s.inEpisode x = true)) :
    s.bothEnded.headRec x h = s.headRec x h := by
  have hfirst := reloadEnded_headRec (y := .a) hnone
  refine (reloadEnded_headRec (y := .b) fun e he => ?_).trans hfirst
  rintro ⟨hx, hh, hin⟩
  refine hnone e (reloadEnded_held_subset .a s he) ⟨hx, hh, ?_⟩
  cases x with
  | a =>
    by_contra hout
    rw [reloadEnded_of_none (by simpa using hout)] at hin
    exact hout hin
  | b => exact (reloadEnded_inEpisode_other .a s).symm.trans hin

/-- Codes are all that a release writes (R43, R49). -/
theorem bothEnded_image_heat (s : State) (x : Side) (h : Fin 12) :
    (s.bothEnded.headRec x h).image = (s.headRec x h).image ∧
      (s.bothEnded.headRec x h).heat = (s.headRec x h).heat := by
  have acts := recordActs_of_record
    (Q := fun r => r.image = (s.headRec x h).image ∧ r.heat = (s.headRec x h).heat) x h
    fun r n v hr => by cases n <;> exact hr
  have hended : ∀ y u, (u.headRec x h).image = (s.headRec x h).image ∧ (u.headRec x h).heat = (s.headRec x h).heat →
      ((reloadEnded y u).headRec x h).image = (s.headRec x h).image ∧
        ((reloadEnded y u).headRec x h).heat = (s.headRec x h).heat := fun y u hu =>
    reloadEnded_keeps y u (P := fun t => (t.headRec x h).image = (s.headRec x h).image ∧
      (t.headRec x h).heat = (s.headRec x h).heat) hu (acts.leave y .idle .reload hu)
  exact hended .b _ (hended .a s ⟨rfl, rfl⟩)

/-! ## The load port (R168, R169) -/

theorem loadNFall_of_unarmed {s : State} (h : s.loader.armed = false) : loadNFall s = s := if_neg (by simp [h])

theorem loadNFall_of_unconfigured {s : State} (harmed : s.loader.armed = true)
    (hc : s.loader.config = .unconfigured) : loadNFall s = { s with loader := ⟨.loading, true, [], []⟩ } := by
  rw [loadNFall, if_pos (by simp [harmed, hc]), State.configured, hc]
  simp [harmed]

/-- The state after a reload has begun: everything of the old image is gone (R97, R149, R169). -/
def State.reloading (s : State) : State :=
  { (s.bothEnded.modChan .a Channel.toIdle).modChan .b Channel.toIdle with
    freeze := ⟨s.freeze.mode, false, ⟨false, false⟩, ⟨false, false⟩⟩
    windows := Vector.replicate 16 .disabled
    shadow := .both .unknown
    framer := { s.bothEnded.framer with baseMap := Vector.replicate 8 .none }
    watch := Vector.replicate 4 .disabled
    thermal := { s.thermal with counter := none, takenEarly := false }
    loader := ⟨.loading, true, [], []⟩ }

theorem loadNFall_of_configured {s : State} (harmed : s.loader.armed = true) (hc : s.loader.config = .configured) :
    loadNFall s = s.reloading := by
  have hloader : s.bothEnded.loader = s.loader :=
    reloadEnded_keeps .b _ (P := fun t => t.loader = s.loader)
      (reloadEnded_keeps .a s (P := fun t => t.loader = s.loader) rfl (by simp))
      ((leaveEpisode_loader ..).trans (reloadEnded_keeps .a s (P := fun t => t.loader = s.loader) rfl (by simp)))
  have hmode : s.bothEnded.freeze.mode = s.freeze.mode :=
    (reloadEnded_freeze_mode .b _).trans (reloadEnded_freeze_mode .a s)
  have hthermal : s.bothEnded.thermal = s.thermal := (reloadEnded_thermal .b _).trans (reloadEnded_thermal .a s)
  rw [loadNFall, if_pos (by simp [harmed, hc]), if_pos (by simp [State.configured, hc]), quitConfigured,
    reloadChannels_eq]
  simp only [State.reloading, State.modChan_loader, State.modChan_freeze, State.modChan_thermal, State.modChan_framer,
    hloader, hmode, hthermal, harmed]
  rfl

theorem reloading_chan (s : State) (harmed : s.loader.armed = true) (hc : s.loader.config = .configured) (x : Side) :
    s.reloading.chan.get x =
      if s.inEpisode x then (s.chan.get x).left .idle else { s.chan.get x with state := .idle } := by
  have hquit := quitConfigured_chan s x
  rw [← hquit, ← loadNFall_of_configured harmed hc, loadNFall, if_pos (by simp [harmed, hc]),
    if_pos (by simp [State.configured, hc])]

theorem loadWord_of_loading {s : State} (w : Word) (hc : s.loader.config = .loading) :
    loadWord w s = { s with loader := { s.loader with
      buffer := if s.loader.buffer.length < 205 then s.loader.buffer ++ [w] else s.loader.buffer
      partialWord := [] } } := if_pos hc

/-- Settles O57. -/
theorem loadBeginsAndTakesWords : Obligations.LoadBeginsAndTakesWords := by
  refine ⟨fun s hrst => exec_edge loadPortArmed rfl hrst,
    fun s w hrst hc => (exec_edge (loadWord w) rfl hrst).trans (congrArg _ (loadWord_of_loading w hc)),
    fun s hrst harmed => (exec_edge loadNFall rfl hrst).trans (congrArg _ (loadNFall_of_unarmed harmed)),
    fun s hrst harmed hc =>
      (exec_edge loadNFall rfl hrst).trans (congrArg _ (loadNFall_of_unconfigured harmed hc)),
    fun s hrst harmed hc => ?_⟩
  have hexec : exec .loadNFall s = .next s.reloading :=
    (exec_edge loadNFall rfl hrst).trans (congrArg _ (loadNFall_of_configured harmed hc))
  have hended := bothEnded_eq s
  have hengine : s.bothEnded.engine = { s.engine with place := s.bothEnded.engine.place } := by
    rw [State.bothEnded, reloadEnded_engine .b, reloadEnded_engine .a]
  refine ⟨_, hexec, rfl, reloading_chan s harmed hc, ?_, fun hroom hheld => bothEnded_quiet hroom hheld,
    fun x hin => bothEnded_clean hin, rfl, ?_, ?_, ?_, ?_, rfl, ?_, ?_, ?_, ?_, ?_, ?_, ?_, fun x h => ?_⟩
  · intro sA sB
    have hsame : s.bothEnded = sB := hended
    rw [← hsame]
    exact ⟨rfl, rfl, rfl, rfl, rfl⟩
  · intro i
    simp [State.reloading, Window.disabled]
  · intro i
    simp [State.reloading, WatchEntry.disabled]
  · intro x
    simp [State.reloading, Shadow.unknown]
  · intro k
    simp [State.reloading]
  · exact (reloadEnded_gates .b _).trans (reloadEnded_gates .a s)
  · exact (reloadEnded_budget .b _).trans (reloadEnded_budget .a s)
  · exact (reloadEnded_dwellLimit .b _).trans (reloadEnded_dwellLimit .a s)
  · exact (reloadEnded_earlyPolicy .b _).trans (reloadEnded_earlyPolicy .a s)
  · exact (reloadEnded_events_mask .b _).trans (reloadEnded_events_mask .a s)
  · exact (congrArg Engine.unit hengine :)
  · exact (congrArg Engine.lastServed hengine :)
  · obtain ⟨himage, hheat⟩ := bothEnded_image_heat s x h
    exact ⟨himage, hheat, bothEnded_headRec⟩

end Sys2Proof.Machine
end

section
/-!
PROOFS. The end of a load (sections 13.2 and 13.3): validation, failure, and what a good image sets.
-/

namespace Sys2Proof.Machine

/-! ## Fields that reach a word's top bit -/

theorem bitField_high (w : Word) {low width : Nat} (h : low + width = 16) :
    bitField w low width = w.toNat / 2 ^ low := by
  refine Nat.mod_eq_of_lt (Nat.div_lt_of_lt_mul ?_)
  rw [← Nat.pow_add, h]
  exact w.isLt

theorem bitAt_top (w : Word) : bitAt w 15 = decide (w.toNat / 2 ^ 15 = 1) := by
  rw [bitAt, bitField_high w rfl]

/-! ## Validation (R170) -/

theorem word_eq_ofNat_iff {w : Word} {n : Nat} (hn : n < 65536) : w = BitVec.ofNat 16 n ↔ w.toNat = n := by
  rw [← BitVec.toNat_inj, BitVec.toNat_ofNat, Nat.mod_eq_of_lt hn]

theorem imageValid_iff (image : List Word) : imageValid image = true ↔
    image.length = 205 ∧ (image.getD 0 0).toNat = 1 ∧ (image.getD 1 0).toNat = 205 ∧
      (image.map BitVec.toNat).sum % 65536 = 0 := by
  have hformat : image.getD 0 0 = 1#16 ↔ (image.getD 0 0).toNat = 1 := word_eq_ofNat_iff (by decide)
  have hlength : image.getD 1 0 = 205#16 ↔ (image.getD 1 0).toNat = 205 := word_eq_ofNat_iff (by decide)
  have hsum : decide (imageSum image = 0) = true ↔ (image.map BitVec.toNat).sum % 65536 = 0 := decide_eq_true_iff
  simp only [imageValid, Bool.and_eq_true, decide_eq_true_eq, imageWord, hformat, hlength, hsum, and_assoc]

theorem loadNRise_of_loading {s : State} (hc : s.loader.config = .loading) :
    loadNRise s = if imageValid s.loader.buffer then loadSucceeds s else loadFails s := if_pos hc

theorem exec_loadNRise_bad {s : State} (hrst : s.rst = false) (hc : s.loader.config = .loading)
    (hbad : ¬imageValid s.loader.buffer = true) : exec .loadNRise s = .next (loadFails s) :=
  (exec_edge loadNRise rfl hrst).trans (congrArg _ ((loadNRise_of_loading hc).trans (if_neg hbad)))

theorem exec_loadNRise_good {s : State} (hrst : s.rst = false) (hc : s.loader.config = .loading)
    (hgood : imageValid s.loader.buffer = true) : exec .loadNRise s = .next (loadSucceeds s) :=
  (exec_edge loadNRise rfl hrst).trans (congrArg _ ((loadNRise_of_loading hc).trans (if_pos hgood)))

/-! ## The head records (R50, R58, R175) -/

theorem decodeHead_eq (w1 w2 w3 w4 w5 : Word) : decodeHead w1 w2 w3 w4 w5 =
    { enabled := decide (w1.toNat / 2 ^ 15 = 1)
      ceiling := w1.toNat % 1024
      kickDelta := w2.toNat / 256
      kickLength := w2.toNat % 64
      preheatFraction := min (w3.toNat / 256 % 32) 16
      leadBase := max (w3.toNat % 256) 1
      leadFloor := min (w4.toNat / 256) (max (w3.toNat % 256) 1)
      thermalGain := w4.toNat % 256
      leadCredit := w5.toNat % 256 } := by
  rw [decodeHead, bitAt_top, bitField_high w2 rfl, bitField_high w4 rfl]
  simp only [bitField_zero, clampNonzero]
  rfl

/-- A head's five words stand at 76 + 60·b + 5·h, with b the actuator's bit (R175). -/
theorem imageHead_place (image : List Word) (x : Side) (h : Fin 12) :
    imageHead image (imageHeadIndex x h) = decodeHead (image.getD (76 + 60 * sideBit x + 5 * h.val) 0)
      (image.getD (76 + 60 * sideBit x + 5 * h.val + 1) 0) (image.getD (76 + 60 * sideBit x + 5 * h.val + 2) 0)
      (image.getD (76 + 60 * sideBit x + 5 * h.val + 3) 0) (image.getD (76 + 60 * sideBit x + 5 * h.val + 4) 0) := by
  have hplace : ∀ k, imageWord image (76 + k + 5 * imageHeadIndex x h) =
      image.getD (76 + 60 * sideBit x + 5 * h.val + k) 0 := by
    intro k
    rw [imageWord, imageHeadIndex]
    congr 1
    omega
  rw [imageHead]
  refine congr (congr (congr (congr (congrArg decodeHead ?_) ?_) ?_) ?_) ?_
  · exact hplace 0
  · exact hplace 1
  · exact hplace 2
  · exact hplace 3
  · exact hplace 4

theorem decodeSlotMap_get (w : Word) (k : Fin 8) : (decodeSlotMap w)[k.val] =
    if w.toNat / 4 ^ k.val % 4 = 0 then .none else if w.toNat / 4 ^ k.val % 4 = 1 then .chan .a
    else if w.toNat / 4 ^ k.val % 4 = 2 then .chan .b else .report := by
  have hfield : bitField w (2 * k.val) 2 = w.toNat / 4 ^ k.val % 4 := by
    rw [bitField, Nat.pow_mul]
    rfl
  rw [decodeSlotMap, Vector.getElem_ofFn, hfield]
  rfl

theorem faultLow_of_no_kinds {s : State} (h : ∀ p, s.events.kinds.get p = []) : s.faultLow = false := by
  rw [← Bool.not_eq_true, faultLow_iff]
  rintro ⟨p, k, hk, -⟩
  simp [h p] at hk

/-- Settles O58. -/
theorem loadEndsByValidation : Obligations.LoadEndsByValidation := by
  intro s hrst hc m good
  have hvalid : imageValid s.loader.buffer = true ↔ good := imageValid_iff s.loader.buffer
  refine ⟨fun hbad => exec_loadNRise_bad hrst hc (mt hvalid.mp hbad), fun hgood hfrz => ?_, fun hgood hfrz => ?_⟩
  · exact (exec_loadNRise_good hrst hc (hvalid.mpr hgood)).trans (congrArg _ (if_pos hfrz))
  · have hexec : exec .loadNRise s = .next (applyImage s.loader.buffer s) :=
      (exec_loadNRise_good hrst hc (hvalid.mpr hgood)).trans
        (congrArg _ (if_neg (by simp [applyImage, hfrz])))
    have hkinds : ∀ p, (applyImage s.loader.buffer s).events.kinds.get p = [] := fun p => PerSide.get_both [] p
    refine ⟨_, hexec, rfl, rfl, fun x h => ?_, ?_, ?_, ?_, ?_, ?_, ?_, rfl, rfl, rfl, fun k => ⟨?_, rfl⟩, fun i => ?_,
      fun i => ?_, rfl, hkinds, faultLow_of_no_kinds hkinds, rfl, rfl, rfl, rfl, rfl, rfl, rfl, rfl⟩
    · rw [headRec_applyImage, imageHead_place, decodeHead_eq]
      cases x <;> exact ⟨rfl, rfl, rfl, rfl, rfl, rfl, rfl, rfl, rfl, rfl, rfl, rfl⟩
    · simp [applyImage, clampQ, bitField_zero, imageWord, m]
    · simp [applyImage, bitField_zero, imageWord, m]
    · simp [applyImage, clampNonzero, bitField_zero, imageWord, m]
    · simp [applyImage, clampNonzero, bitField_zero, imageWord, m]
    · simp [applyImage, decodeEarlyPolicy, bitField_zero, imageWord, m]
    · simp [applyImage, decodeFreezeMode, bitField_zero, imageWord, m]
    · exact decodeSlotMap_get _ k
    · exact Vector.getElem_ofFn i.isLt
    · exact Vector.getElem_ofFn i.isLt

end Sys2Proof.Machine
end

section
/-!
PROOFS. What a slot carries (sections 9.4, 9.5 and 10.1): the words of the four cases of R133, and the LEVEL word within
the supply budget.
-/

namespace Sys2Proof.Machine

/-! ## What the choice of a word reads, as it stood before the slot start -/

section

variable (part : SlotPart) (s : State)

@[simp] theorem beforeWord_level : (s.beforeWord part).framer.level = s.framer.level := by
  obtain ⟨_, _, _, _, _, _, hshape⟩ := beforeWord_shape part s
  rw [hshape]

@[simp] theorem beforeWord_head : (s.beforeWord part).framer.head = s.framer.head := by
  obtain ⟨_, _, _, _, _, _, hshape⟩ := beforeWord_shape part s
  rw [hshape]

@[simp] theorem beforeWord_urgent : (s.beforeWord part).framer.urgent = s.framer.urgent := by
  obtain ⟨_, _, _, _, _, _, hshape⟩ := beforeWord_shape part s
  rw [hshape]

@[simp] theorem beforeWord_reports : (s.beforeWord part).reports = s.reports := by
  obtain ⟨_, _, _, _, _, _, hshape⟩ := beforeWord_shape part s
  rw [hshape]

@[simp] theorem beforeWord_events : (s.beforeWord part).events = s.events := by
  obtain ⟨_, _, _, _, _, _, hshape⟩ := beforeWord_shape part s
  rw [hshape]

@[simp] theorem beforeWord_budget : (s.beforeWord part).budget = s.budget := by
  obtain ⟨_, _, _, _, _, _, hshape⟩ := beforeWord_shape part s
  rw [hshape]

@[simp] theorem beforeWord_heads : (s.beforeWord part).heads = s.heads := by
  obtain ⟨_, _, _, _, _, _, hshape⟩ := beforeWord_shape part s
  rw [hshape]

end

theorem exec_slotStart {s : State} {part : SlotPart} (hrst : s.rst = false) :
    exec (.slotStart part) s = .next (slotStart part s) := exec_edge (slotStart part) rfl hrst

theorem exec_slotStart_word {s : State} {part : SlotPart} (hrst : s.rst = false) (hpart : part ≠ .event) :
    exec (.slotStart part) s = .next (sendSlot s.slotToCome (s.beforeWord part)) :=
  (exec_slotStart hrst).trans (congrArg _ (slotStart_eq_sendSlot part s hpart))

/-! ## The four cases (R133) -/

section

variable {s : State}

theorem sendSlot_of_both_urgent (k : Fin 8) (ha : s.framer.urgent.a = true) (hb : s.framer.urgent.b = true) :
    sendSlot k s = sendAllOff s := by
  unfold sendSlot
  rw [ha, hb]
  exact ite_self _

theorem sendSlot_of_urgent (k : Fin 8) (hc : s.configured = true) {x : Side} (hx : s.framer.urgent.get x = true)
    (hother : s.framer.urgent.get x.other = false) : sendSlot k s = sendUrgent x s := by
  unfold sendSlot
  rw [hc]
  cases x with
  | a =>
    rw [show s.framer.urgent.a = true from hx, show s.framer.urgent.b = false from hother]
    rfl
  | b =>
    rw [show s.framer.urgent.b = true from hx, show s.framer.urgent.a = false from hother]
    rfl

theorem sendSlot_of_calm (k : Fin 8) (hc : s.configured = true) (ha : s.framer.urgent.a = false)
    (hb : s.framer.urgent.b = false) : sendSlot k s = sendOwner s (s.framer.effectiveMap[k.val]) := by
  unfold sendSlot
  rw [hc, ha, hb]
  rfl

end

theorem levelWord_off_toNat (h : Fin 12) : (levelWord h 0).toNat = 2 ^ 14 + h.val * 2 ^ 10 := by
  have hh := h.isLt
  rw [levelWord, BitVec.toNat_ofNat]
  omega

theorem sendReport_of_nil {s : State} (h : s.reports.records = []) : sendReport s = sendIdle s := by
  rw [sendReport, h]

theorem sendReport_of_cons {s : State} {r : Report} {rest : List Report} (h : s.reports.records = r :: rest) :
    sendReport s = putWord (r.words.getD s.reports.sent 0) destController
      { s with reports :=
          if s.reports.sent + 1 < r.words.length then ⟨r :: rest, s.reports.sent + 1⟩ else ⟨rest, 0⟩ } := by
  rw [sendReport, h]
  dsimp only
  split
  · rw [← h]
  · rfl

/-- A slot of CONFIGURED without an urgent OFF goes to its owner (R133, case 4). -/
theorem exec_slotStart_owner {s : State} {part : SlotPart} (hrst : s.rst = false) (hpart : part ≠ .event)
    (hc : s.loader.config = .configured) (ha : s.framer.urgent.a = false) (hb : s.framer.urgent.b = false) :
    exec (.slotStart part) s = .next (sendOwner (s.beforeWord part) s.ownerToCome) := by
  have hconf : (s.beforeWord part).configured = true :=
    (beforeWord_configured part s).trans (by simp [State.configured, hc])
  rw [exec_slotStart_word hrst hpart, sendSlot_of_calm _ hconf (by simpa using ha) (by simpa using hb),
    beforeWord_owner]

/-- Settles O51. -/
theorem slotWordsOtherThanLevel : Obligations.SlotWordsOtherThanLevel := by
  intro s part hrst hpart
  have hexec := exec_slotStart_word hrst hpart
  refine ⟨fun hcase => ?_, fun hc => ⟨fun x hx hother => ?_,
    fun ha hb => ⟨fun howner r rest hrecords => ?_, fun howner => ?_⟩⟩⟩
  · have hword : sendSlot s.slotToCome (s.beforeWord part) = sendAllOff (s.beforeWord part) := by
      rcases hcase with hc | ⟨ha, hb⟩
      · exact sendSlot_of_not_configured _ ((beforeWord_configured part s).trans (by simp [State.configured, hc]))
      · exact sendSlot_of_both_urgent _ (by simpa using ha) (by simpa using hb)
    rw [hword] at hexec
    exact ⟨_, hexec, rfl, rfl, beforeWord_head part s, fun x => ⟨PerSide.get_both 0 x, PerSide.get_both false x⟩,
      beforeWord_reports part s, beforeWord_events part s⟩
  · have hconf : (s.beforeWord part).configured = true :=
      (beforeWord_configured part s).trans (by simp [State.configured, hc])
    rw [sendSlot_of_urgent _ hconf (by simpa using hx) (by simpa using hother)] at hexec
    refine ⟨_, hexec, ?_, by cases x <;> rfl, beforeWord_head part s, ?_, fun y => ?_, beforeWord_reports part s,
      beforeWord_events part s⟩
    · exact (levelWord_off_toNat _).trans (by rw [beforeWord_head])
    · exact congrArg (fun v => PerSide.set v x 0) (beforeWord_level part s)
    · refine (congrArg (fun v => (PerSide.set v x false).get y) (beforeWord_urgent part s)).trans ?_
      rcases Side.eq_or_other x y with rfl | rfl
      · exact PerSide.get_set_same _ _ _
      · exact (PerSide.get_set_other _ _ _).trans hother
  · refine ⟨_, exec_slotStart_owner hrst hpart hc ha hb, ?_⟩
    rw [howner, sendOwner, sendReport_of_cons (by simpa using hrecords), beforeWord_reports]
    exact ⟨rfl, rfl, fun hmore => if_pos hmore, fun hlast => if_neg (by omega), beforeWord_level part s,
      beforeWord_head part s, beforeWord_events part s⟩
  · have hidle : sendOwner (s.beforeWord part) s.ownerToCome = sendIdle (s.beforeWord part) := by
      rcases howner with h | ⟨h, hempty⟩ | ⟨x, h, hout⟩
      · rw [h, sendOwner]
      · rw [h, sendOwner, sendReport_of_nil (by simpa using hempty)]
      · rw [h, sendOwner, beforeWord_inEpisode, if_neg (by simp [hout])]
    refine ⟨_, exec_slotStart_owner hrst hpart hc ha hb, ?_⟩
    rw [hidle]
    exact ⟨rfl, rfl, beforeWord_level part s, beforeWord_head part s, beforeWord_reports part s,
      beforeWord_events part s⟩

/-! ## The LEVEL word (R134, R141–R143) -/

/-- What a raise queues and makes pending depends on the event unit, the report queue and the episode number alone. -/
theorem raiseEvent_outcome_congr {s u : State} {p : Side} (k : EventKind) (injected : Bool)
    (hevents : u.events = s.events) (hreports : u.reports = s.reports)
    (hepisode : (u.chan.get p).episode = (s.chan.get p).episode) :
    (raiseEvent p k injected u).events = (raiseEvent p k injected s).events ∧
      (raiseEvent p k injected u).reports = (raiseEvent p k injected s).reports := by
  have hqueue : ∀ (r : Report) {v w : State}, v.events = w.events → v.reports = w.reports →
      (queueReport r v).events = (queueReport r w).events ∧ (queueReport r v).reports = (queueReport r w).reports := by
    intro r v w hev hre
    unfold queueReport raiseOverflow
    rw [hre]
    split
    · exact ⟨hev, by simp only [State.setRecords, hre]⟩
    · split
      · exact ⟨hev, hre⟩
      · exact ⟨by simp only [State.setKinds, hev], hre⟩
  unfold raiseEvent
  rw [hevents, hepisode]
  exact hqueue _ (by simp only [State.setKinds, hevents]) hreports

section

variable (x : Side) (s : State)

/-- The level of the word: the smaller of the planned level and what the other channel leaves of the budget (R141). -/
def State.levelToSend : Nat := min (s.chan.get x).planned (s.budget - s.framer.level.get x.other)

theorem sendLevel_word : (sendLevel x s).framer.lbda = levelWord (s.chan.get x).head (s.levelToSend x) ∧
    (sendLevel x s).framer.lbds = destOf x := ⟨rfl, rfl⟩

/-- A reduced word marks the channel's own record (R142). -/
theorem markReduced_chan : (markReduced x s).chan =
    s.chan.set x { s.chan.get x with record := { (s.chan.get x).record with reduced := true } } := by
  unfold markReduced
  dsimp only
  split <;> simp [State.modChan, State.setChan]

theorem markReduced_outcome : (markReduced x s).events =
      (if (s.chan.get x).record.reduced then s else raiseEvent x .budgetShort false s).events ∧
    (markReduced x s).reports =
      (if (s.chan.get x).record.reduced then s else raiseEvent x .budgetShort false s).reports := ⟨rfl, rfl⟩

theorem sendLevel_chan : (sendLevel x s).chan.get x =
    Channel.emitted (s.episodeRec x).image.kickLength (s.levelToSend x)
      { s.chan.get x with record := { (s.chan.get x).record with
        reduced := (s.chan.get x).record.reduced || decide (s.levelToSend x < (s.chan.get x).planned) } } := by
  unfold sendLevel
  dsimp only
  rw [show limitLevel s.budget (s.chan.get x).planned (s.framer.level.get x.other) = s.levelToSend x from rfl]
  refine (PerSide.get_set_same _ _ _).trans (congrArg (Channel.emitted _ _) ?_)
  by_cases hless : s.levelToSend x < (s.chan.get x).planned
  · rw [if_pos hless, decide_eq_true hless, Bool.or_true]
    exact (congrArg (fun v => PerSide.get v x) (markReduced_chan x s)).trans (PerSide.get_set_same _ _ _)
  · rw [if_neg hless, decide_eq_false hless, Bool.or_false]

theorem sendLevel_chan_other : (sendLevel x s).chan.get x.other = s.chan.get x.other := by
  unfold sendLevel
  dsimp only
  refine (PerSide.get_set_other _ _ _).trans ?_
  split
  · exact (congrArg (fun v => PerSide.get v x.other) (markReduced_chan x s)).trans (PerSide.get_set_other _ _ _)
  · rfl

/-- A LEVEL word raises BUDGET_SHORT where it is the first reduced one of the episode (R142). -/
theorem sendLevel_outcome :
    ((sendLevel x s).events, (sendLevel x s).reports) =
      if s.levelToSend x < (s.chan.get x).planned ∧ (s.chan.get x).record.reduced = false then
        ((raiseEvent x .budgetShort false s).events, (raiseEvent x .budgetShort false s).reports)
      else (s.events, s.reports) := by
  unfold sendLevel
  dsimp only
  rw [show limitLevel s.budget (s.chan.get x).planned (s.framer.level.get x.other) = s.levelToSend x from rfl]
  by_cases hless : s.levelToSend x < (s.chan.get x).planned
  · rw [if_pos hless]
    obtain ⟨hevents, hreports⟩ := markReduced_outcome x s
    refine (congr (congrArg Prod.mk hevents) hreports).trans ?_
    cases hred : (s.chan.get x).record.reduced
    · rw [if_neg Bool.false_ne_true, if_pos ⟨hless, rfl⟩]
    · rw [if_pos rfl, if_neg (by simp)]
  · rw [if_neg hless, if_neg fun h => hless h.1]
    rfl

end

/-- Settles O52. -/
theorem levelWordWithinBudget : Obligations.LevelWordWithinBudget := by
  intro s part x hrst hpart hc ha hb howner hin c level
  have hexec := exec_slotStart_owner hrst hpart hc ha hb
  rw [howner, sendOwner, beforeWord_inEpisode, if_pos hin] at hexec
  obtain ⟨n, d, hd, hchan⟩ := beforeWord_chan part s x
  obtain ⟨m, e, he, hother⟩ := beforeWord_chan part s x.other
  obtain ⟨hstate, hhead, hepisode, hlive, -, hfirst, hkick, hlead, hkicktimer⟩ := hd.rest
  obtain ⟨hpeak, hearly, hlenient, hoverlap, hreduced, -⟩ := hd.record
  obtain ⟨hpeak', -, -, -, hreduced', -⟩ := he.record
  have hplanned : ((s.beforeWord part).chan.get x).planned = c.planned := by
    rw [hchan]
    simp only [Channel.planned, Channel.countSlot, hlive, hstate, hkick, hfirst]
    rfl
  have hlevel : (s.beforeWord part).levelToSend x = level := by
    rw [State.levelToSend, hplanned, beforeWord_budget, beforeWord_level]
  have hrec : (s.beforeWord part).episodeRec x = s.headRec x c.head := by
    rw [State.episodeRec, hchan]
    exact (headRec_congr (beforeWord_heads part s) x _).trans (congrArg _ hhead)
  have hdone := sendLevel_chan x (s.beforeWord part)
  have hout := sendLevel_outcome x (s.beforeWord part)
  obtain ⟨hword, hdest⟩ := sendLevel_word x (s.beforeWord part)
  obtain ⟨hurgent, -⟩ := sendLevel_urgent_budget x (s.beforeWord part)
  obtain ⟨hevents, hreports⟩ := raiseEvent_outcome_congr (s := s) (u := s.beforeWord part) (p := x) .budgetShort false
    (beforeWord_events part s) (beforeWord_reports part s) (by rw [hchan]; exact hepisode)
  have hothers := (sendLevel_chan_other x (s.beforeWord part)).trans hother
  rw [hlevel, hplanned, hchan] at hout
  rw [hlevel, hplanned, hchan, hrec] at hdone
  rw [hlevel, hchan] at hword
  have hstopped : ∀ {t : Timer} (k : Nat), t = .stopped → t.countSlot.load k = .stopped := by
    rintro t k rfl
    rfl
  have hwaiting : ∀ {t : Timer} (k : Nat), t = .waiting → t.countSlot.load k = .counting k := by
    rintro t k rfl
    rfl
  refine ⟨_, hexec, ?_⟩
  dsimp only
  rw [hdone, hothers]
  refine ⟨?_, ?_, ?_, ?_, ?_, fun plan hplan hwait => ?_, fun hstop => ?_, fun hwait => ?_, fun hstop => ?_, ?_, ?_,
    hearly, hlenient, hoverlap, hreduced', hpeak', ?_⟩
  · rw [hword]
    exact congrArg (fun h => levelWord h level) hhead
  · rw [hdest]
    cases x <;> rfl
  · rw [sendLevel_level, hplanned, beforeWord_budget, beforeWord_level]
  · rw [sendLevel_head, hchan, beforeWord_head]
    exact congrArg _ hhead
  · rw [hurgent, beforeWord_urgent]
  · refine (hwaiting _ (hlead.trans hwait)).trans ?_
    simp only [Channel.countSlot, hlive.trans hplan]
  · exact hstopped _ (hlead.trans hstop)
  · exact hwaiting _ (hkicktimer.trans hwait)
  · exact hstopped _ (hkicktimer.trans hstop)
  · exact congrArg (fun k => max k level) hpeak
  · exact congrArg (fun b => b || decide (level < c.planned)) hreduced
  · rw [hevents, hreports, beforeWord_events, beforeWord_reports] at hout
    have hfirst : d.countSlot.record.reduced = false ↔ c.record.reduced = false := by rw [← hreduced]; rfl
    split
    · next h => exact hout.trans (if_pos (h.imp_right hfirst.mpr))
    · next h => exact hout.trans (if_neg fun h' => h (h'.imp_right hfirst.mp))

end Sys2Proof.Machine
end

section
/-!
PROOFS. The slot start (sections 9.1–9.3): the end of the running slot, the frame start and the fix of the slot map.
-/

namespace Sys2Proof.Machine

/-! ## What a word changes -/

theorem raiseEvent_shape (p : Side) (k : EventKind) (i : Bool) (s : State) :
    ∃ e r, raiseEvent p k i s = { s with events := e, reports := r } := by
  unfold raiseEvent queueReport
  split
  · exact ⟨_, _, rfl⟩
  · split <;> exact ⟨_, _, rfl⟩

theorem markReduced_shape (x : Side) (s : State) :
    ∃ ch e r, markReduced x s = { s with chan := ch, events := e, reports := r } := by
  obtain ⟨_, _, hraise⟩ := raiseEvent_shape x .budgetShort false s
  unfold markReduced
  dsimp only
  split
  · exact ⟨_, _, _, rfl⟩
  · rw [hraise]
    exact ⟨_, _, _, rfl⟩

/-- The part of the state that choosing and sending a word leaves alone. -/
structure WordKept (s t : State) : Prop where
  slot : t.framer.slot = s.framer.slot
  baseMap : t.framer.baseMap = s.framer.baseMap
  effectiveMap : t.framer.effectiveMap = s.framer.effectiveMap
  split : t.framer.split = s.framer.split
  drives : t.drives = s.drives
  thermal : t.thermal = s.thermal
  heads : t.heads = s.heads
  link : t.link = s.link
  shadow : t.shadow = s.shadow
  held : t.held = s.held
  windows : t.windows = s.windows
  watch : t.watch = s.watch
  gates : t.gates = s.gates
  engine : t.engine = s.engine
  loader : t.loader = s.loader
  freeze : t.freeze = s.freeze
  budget : t.budget = s.budget

theorem WordKept.of_shape {s t : State} (h : ∃ ch e r lv hd ur a d, t = { s with
    chan := ch, events := e, reports := r
    framer := { s.framer with level := lv, head := hd, urgent := ur, lbda := a, lbds := d } }) : WordKept s t := by
  obtain ⟨_, _, _, _, _, _, _, _, rfl⟩ := h
  exact ⟨rfl, rfl, rfl, rfl, rfl, rfl, rfl, rfl, rfl, rfl, rfl, rfl, rfl, rfl, rfl, rfl, rfl⟩

theorem sendLevel_wordKept (x : Side) (s : State) : WordKept s (sendLevel x s) := by
  refine .of_shape ?_
  obtain ⟨_, _, _, hmark⟩ := markReduced_shape x s
  unfold sendLevel
  dsimp only
  split
  · rw [hmark]
    exact ⟨_, _, _, _, _, _, _, _, rfl⟩
  · exact ⟨_, _, _, _, _, _, _, _, rfl⟩

theorem sendReport_wordKept (s : State) : WordKept s (sendReport s) := by
  refine .of_shape ?_
  unfold sendReport
  split
  · exact ⟨_, _, _, _, _, _, _, _, rfl⟩
  · split <;> exact ⟨_, _, _, _, _, _, _, _, rfl⟩

theorem sendSlot_wordKept (k : Fin 8) (s : State) : WordKept s (sendSlot k s) :=
  sendSlot_keeps (.of_shape ⟨_, _, _, _, _, _, _, _, rfl⟩) (fun _ => .of_shape ⟨_, _, _, _, _, _, _, _, rfl⟩)
    (fun x _ => sendLevel_wordKept x s) (sendReport_wordKept s) (.of_shape ⟨_, _, _, _, _, _, _, _, rfl⟩) k

/-- What the words leave of a channel: of its record all but the peak and the budget-reduced flag, and of its timers
those that count already. -/
structure ChannelSteady (c d : Channel) : Prop where
  rest : d = { c with
    leadTimer := d.leadTimer, kickTimer := d.kickTimer
    record := { c.record with peak := d.record.peak, reduced := d.record.reduced } }
  lead : ∀ n, c.leadTimer = .counting n → d.leadTimer = .counting n
  kick : ∀ n, c.kickTimer = .counting n → d.kickTimer = .counting n

theorem ChannelSteady.refl (c : Channel) : ChannelSteady c c := ⟨rfl, fun _ h => h, fun _ h => h⟩

theorem sendLevel_steadyChannel (x : Side) (s : State) (y : Side) :
    ChannelSteady (s.chan.get y) ((sendLevel x s).chan.get y) := by
  rcases Side.eq_or_other x y with rfl | rfl
  · rw [sendLevel_chan]
    refine ⟨rfl, fun n hn => ?_, fun n hn => ?_⟩
    · simp only [Channel.emitted, hn, Timer.load]
    · simp only [Channel.emitted, hn, Timer.load]
  · rw [sendLevel_chan_other]
    exact .refl _

theorem sendReport_chan (s : State) : (sendReport s).chan = s.chan := by
  unfold sendReport
  split
  · rfl
  · split <;> rfl

theorem sendSlot_steady (k : Fin 8) (s : State) (y : Side) :
    ChannelSteady (s.chan.get y) ((sendSlot k s).chan.get y) :=
  sendSlot_keeps (P := fun t => ChannelSteady (s.chan.get y) (t.chan.get y)) (.refl _) (fun _ => .refl _)
    (fun x _ => sendLevel_steadyChannel x s y) (by rw [sendReport_chan]; exact .refl _) (.refl _) k

/-! ## The events of a moment (R125, R131) -/

/-- `n` frame starts, and then the fix of the map where it falls. -/
def State.afterEvents (n : Nat) (fixed : Bool) (mark : SlotSplit) (s : State) : State :=
  State.setSplit mark (if fixed then fixMap (frameStart^[n] s) else frameStart^[n] s)

/-- How many frame starts a slot start or a part of one takes: one that is owed, and the one of slot 0 to come. -/
def State.framesTaken (s : State) (part : SlotPart) : Nat :=
  (if s.framer.split = .frameOwed then 1 else 0) +
    if s.slotToCome = 0 ∧ s.framer.split ≠ .eventTaken ∧
        (part = .whole ∨ (part = .event ∧ s.framer.split ≠ .frameOwed)) then 1 else 0

/-- Whether it fixes the effective slot map. -/
abbrev State.mapFixed (s : State) (part : SlotPart) : Prop :=
  s.slotToCome = 1 ∧ s.framer.split ≠ .eventTaken ∧ (part = .event → s.framer.split ≠ .frameOwed)

theorem framesTaken_le (s : State) (part : SlotPart) : s.framesTaken part ≤ 2 := by
  unfold State.framesTaken
  split <;> split <;> omega

theorem frameStarts_setSplit (n : Nat) (mark : SlotSplit) (s : State) :
    frameStart^[n] (s.setSplit mark) = (frameStart^[n] s).setSplit mark := by
  induction n generalizing s with
  | zero => rfl
  | succ n ih =>
    rw [Function.iterate_succ_apply, Function.iterate_succ_apply]
    exact ih (frameStart s)

/-- Frame starts that an event act takes add to those taken before. -/
theorem afterEvents_add (n m : Nat) (fixed : Bool) (mark mark' : SlotSplit) (s : State) :
    (s.afterEvents n false mark).afterEvents m fixed mark' = s.afterEvents (n + m) fixed mark' := by
  have hframes : frameStart^[m] (s.afterEvents n false mark) = (frameStart^[n + m] s).setSplit mark :=
    (frameStarts_setSplit m mark (frameStart^[n] s)).trans
      (congrArg (State.setSplit mark) (by rw [Nat.add_comm, Function.iterate_add_apply]))
  cases fixed with
  | false =>
    have hmarked := congrArg (State.setSplit mark') hframes
    exact hmarked
  | true =>
    have hmarked := congrArg (fun u => State.setSplit mark' (fixMap u)) hframes
    exact hmarked

theorem takeOwed_eq_afterEvents (s : State) : takeOwed s =
    s.afterEvents (if s.framer.split = .frameOwed then 1 else 0) false
      (if s.framer.split = .frameOwed then .whole else s.framer.split) := by
  unfold takeOwed
  split <;> rfl

theorem takeEvent_eq_afterEvents (s : State) : takeEvent s =
    s.afterEvents (if s.slotToCome = 0 ∧ s.framer.split ≠ .eventTaken then 1 else 0)
      (s.slotToCome = 1 ∧ s.framer.split ≠ .eventTaken)
      (if s.slotToCome = 0 ∨ s.slotToCome = 1 then .eventTaken else s.framer.split) := by
  by_cases htaken : s.framer.split = .eventTaken
  · have hmark : (if s.slotToCome = 0 ∨ s.slotToCome = 1 then SlotSplit.eventTaken else s.framer.split) =
        s.framer.split := by rw [htaken, ite_self]
    rw [hmark, if_neg fun h => h.2 htaken, decide_eq_false fun h => h.2 htaken, takeEvent, if_pos htaken]
    rfl
  by_cases hzero : s.slotToCome = 0
  · have hvalue : takeEvent s = (frameStart s).setSplit .eventTaken := (if_neg htaken).trans (if_pos hzero)
    simp only [hvalue, hzero, htaken, ne_eq, not_false_eq_true, and_self, true_or, if_true]
    rfl
  · by_cases hone : s.slotToCome = 1
    · have hvalue : takeEvent s = (fixMap s).setSplit .eventTaken :=
        (if_neg htaken).trans ((if_neg hzero).trans (if_pos hone))
      simp only [hvalue, hone, htaken, ne_eq, not_false_eq_true, and_self, or_true, if_true]
      rfl
    · have hvalue : takeEvent s = s := (if_neg htaken).trans ((if_neg hzero).trans (if_neg hone))
      simp only [hvalue, hzero, hone, false_and, or_self, if_false]
      rfl

/-- A frame start that is owed is taken, and then the event of the moment. -/
theorem takeBoth_eq_afterEvents (s : State) : ∃ mark, takeEvent (takeOwed s) =
    s.afterEvents ((if s.framer.split = .frameOwed then 1 else 0) +
        if s.slotToCome = 0 ∧ s.framer.split ≠ .eventTaken then 1 else 0)
      (s.slotToCome = 1 ∧ s.framer.split ≠ .eventTaken) mark := by
  obtain ⟨hslot, -, -, htaken, -⟩ := takeOwed_eq s
  have hslot' : (takeOwed s).slotToCome = s.slotToCome := congrArg nextSlot hslot
  simp only [takeEvent_eq_afterEvents (takeOwed s), hslot', ne_eq, htaken]
  rw [takeOwed_eq_afterEvents, afterEvents_add]
  exact ⟨_, rfl⟩

theorem eventsTaken_eq (s : State) {part : SlotPart} (hpart : part ≠ .event) :
    ∃ mark, s.eventsTaken part = s.afterEvents (s.framesTaken part) (s.mapFixed part) mark := by
  unfold State.eventsTaken State.framesTaken
  by_cases hahead : s.sendsAhead part
  · obtain ⟨hword, hzero, -⟩ := id hahead
    have hone : ¬s.mapFixed part := fun h => absurd (hzero.symm.trans h.1) (by decide)
    rw [if_pos hahead, takeOwed_eq_afterEvents, decide_eq_false hone,
      if_neg (c := s.slotToCome = 0 ∧ _) (by simp [hword])]
    exact ⟨_, rfl⟩
  · obtain ⟨mark, hboth⟩ := takeBoth_eq_afterEvents s
    have hframe : (s.slotToCome = 0 ∧ s.framer.split ≠ .eventTaken ∧
        (part = .whole ∨ (part = .event ∧ s.framer.split ≠ .frameOwed))) ↔
        s.slotToCome = 0 ∧ s.framer.split ≠ .eventTaken := by
      refine ⟨fun h => ⟨h.1, h.2.1⟩, fun ⟨hzero, htaken⟩ => ⟨hzero, htaken, .inl ?_⟩⟩
      cases part with
      | whole => rfl
      | word => exact absurd ⟨rfl, hzero, htaken⟩ hahead
      | event => exact absurd rfl hpart
    have hfix : s.mapFixed part ↔ s.slotToCome = 1 ∧ s.framer.split ≠ .eventTaken :=
      ⟨fun h => ⟨h.1, h.2.1⟩, fun h => ⟨h.1, h.2, fun he => absurd he hpart⟩⟩
    rw [if_neg hahead, hboth]
    simp only [hframe, hfix]
    exact ⟨mark, rfl⟩

theorem slotStart_event_eq (s : State) : slotStart .event s =
    s.afterEvents (s.framesTaken .event) (s.mapFixed .event)
      (if s.framer.split = .frameOwed then .whole
        else if s.slotToCome = 0 ∨ s.slotToCome = 1 then .eventTaken else s.framer.split) := by
  unfold slotStart State.framesTaken
  by_cases howed : s.framer.split = .frameOwed
  · have hfix : ¬s.mapFixed .event := fun h => h.2.2 rfl howed
    simp only [if_pos howed, takeOwed_eq_afterEvents, decide_eq_false hfix]
    simp [howed]
  · simp only [if_neg howed, takeEvent_eq_afterEvents, State.mapFixed]
    simp [howed]

section

variable {n : Nat} (fixed : Bool) (mark : SlotSplit) (s : State)

theorem frameStarts_chan (hn : n ≤ 2) (x : Side) :
    FramesCounted (s.chan.get x) n ((frameStart^[n] s).chan.get x) := by
  match n, hn with
  | 0, _ => exact .zero
  | 1, _ => cases x <;> exact .one
  | 2, _ => cases x <;> exact .two

theorem afterEvents_chan (hn : n ≤ 2) (x : Side) :
    FramesCounted (s.chan.get x) n ((s.afterEvents n fixed mark).chan.get x) := by
  cases fixed <;> exact frameStarts_chan s hn x

theorem frameStarts_shape (n : Nat) (s : State) : ∃ ch th, frameStart^[n] s = { s with chan := ch, thermal := th } := by
  induction n generalizing s with
  | zero => exact ⟨_, _, rfl⟩
  | succ n ih =>
    obtain ⟨_, _, hn⟩ := ih (frameStart s)
    rw [Function.iterate_succ_apply, hn]
    exact ⟨_, _, rfl⟩

theorem afterEvents_shape (n : Nat) : ∃ ch th em, s.afterEvents n fixed mark =
    { s with chan := ch, thermal := th, framer := { s.framer with effectiveMap := em, split := mark } } := by
  obtain ⟨_, _, hn⟩ := frameStarts_shape n s
  unfold State.afterEvents
  rw [hn]
  cases fixed <;> exact ⟨_, _, _, rfl⟩

/-- Outside CONFIGURED the interval counter is stopped (R116). -/
theorem frameStarts_thermal_of_not_configured (n : Nat) (s : State) (hc : s.configured = false) :
    (frameStart^[n] s).thermal = s.thermal := by
  induction n generalizing s with
  | zero => rfl
  | succ n ih =>
    rw [Function.iterate_succ_apply, ih (frameStart s) hc]
    simp [frameStart, Thermal.countFrame, hc]

/-- The interval counter at up to two frame starts: one whose expiry has been taken ahead is not counted
(R116, R120). -/
theorem frameStarts_thermal (hn : n ≤ 2) (hc : s.configured = true) : (frameStart^[n] s).thermal = { s.thermal with
    counter := s.thermal.counter.map (· - (n - if s.thermal.takenEarly then 1 else 0))
    takenEarly := s.thermal.takenEarly && decide (n = 0) } := by
  have hconf : ∀ u : State, u.loader = s.loader → u.configured = true := fun u hu => by
    rw [State.configured, hu]
    exact hc
  have hcount : ∀ u : State, u.loader = s.loader → (frameStart u).thermal = u.thermal.countFrame true := fun u hu =>
    congrArg (fun b => u.thermal.countFrame b) (hconf u hu)
  match n, hn with
  | 0, _ => simp
  | 1, _ =>
    refine (hcount s rfl).trans ?_
    cases htaken : s.thermal.takenEarly <;> simp [Thermal.countFrame, htaken]
  | 2, _ =>
    refine (hcount (frameStart s) rfl).trans ?_
    rw [hcount s rfl]
    cases htaken : s.thermal.takenEarly <;> simp [Thermal.countFrame, htaken, Function.comp_def, Nat.sub_sub]

theorem afterEvents_thermal (n : Nat) : (s.afterEvents n fixed mark).thermal = (frameStart^[n] s).thermal := by
  cases fixed <;> rfl

/-- Frame starts leave what a slot's lending depends on. -/
theorem effectiveOwner_frameStarts (n : Nat) (s : State) (o : SlotOwner) :
    effectiveOwner (frameStart^[n] s) o = effectiveOwner s o := by
  induction n generalizing s with
  | zero => rfl
  | succ n ih =>
    rw [Function.iterate_succ_apply, ih]
    cases o with
    | chan x => cases x <;> rfl
    | _ => rfl

theorem afterEvents_map (n : Nat) : (s.afterEvents n fixed mark).framer.effectiveMap =
    if fixed then Vector.ofFn fun k => effectiveOwner s (s.framer.baseMap[k.val]) else s.framer.effectiveMap := by
  obtain ⟨_, _, hshape⟩ := frameStarts_shape n s
  cases fixed with
  | false =>
    change (frameStart^[n] s).framer.effectiveMap = _
    rw [hshape]
    rfl
  | true =>
    change (Vector.ofFn fun k => effectiveOwner (frameStart^[n] s) ((frameStart^[n] s).framer.baseMap[k.val])) = _
    simp only [effectiveOwner_frameStarts, if_true]
    rw [hshape]

end

/-! ## A slot start and its parts -/

/-- What a slot start or a part of one leaves, whichever of the two parts it is. -/
structure SlotTaken (part : SlotPart) (s t : State) : Prop where
  chan : ∀ x, ∃ c, FramesCounted (s.chan.get x) (s.framesTaken part) c ∧ t.chan.get x = { c with
    leadTimer := (t.chan.get x).leadTimer, kickTimer := (t.chan.get x).kickTimer
    record := { c.record with
      peak := (t.chan.get x).record.peak, reduced := (t.chan.get x).record.reduced } }
  thermal : t.thermal = (frameStart^[s.framesTaken part] s).thermal
  baseMap : t.framer.baseMap = s.framer.baseMap
  effectiveMap : t.framer.effectiveMap =
    if s.mapFixed part then Vector.ofFn fun k => effectiveOwner s (s.framer.baseMap[k.val])
    else s.framer.effectiveMap
  rest : t.heads = s.heads ∧ t.link = s.link ∧ t.shadow = s.shadow ∧ t.held = s.held ∧ t.windows = s.windows ∧
    t.watch = s.watch ∧ t.gates = s.gates ∧ t.engine = s.engine ∧ t.loader = s.loader ∧ t.freeze = s.freeze ∧
    t.budget = s.budget

theorem afterEvents_slotTaken (part : SlotPart) (mark : SlotSplit) (s : State) :
    SlotTaken part s (s.afterEvents (s.framesTaken part) (s.mapFixed part) mark) := by
  obtain ⟨_, _, _, hshape⟩ := afterEvents_shape (s.mapFixed part) mark s (s.framesTaken part)
  refine ⟨fun x => ⟨_, afterEvents_chan _ mark s (framesTaken_le s part) x, rfl⟩, afterEvents_thermal _ _ _ _, ?_,
    (afterEvents_map _ mark s _).trans (by simp only [decide_eq_true_eq]), ?_⟩
  · rw [hshape]
  · rw [hshape]
    exact ⟨rfl, rfl, rfl, rfl, rfl, rfl, rfl, rfl, rfl, rfl, rfl⟩

section

variable {part : SlotPart} (s : State) (hpart : part ≠ .event)
include hpart

theorem eventsTaken_slotTaken : SlotTaken part s (s.eventsTaken part) := by
  obtain ⟨mark, hevents⟩ := eventsTaken_eq s hpart
  rw [hevents]
  exact afterEvents_slotTaken part mark s

/-- The slot that ended is counted, and its word latched, when the next word is chosen. -/
theorem beforeWord_slotTaken : SlotTaken part s (s.beforeWord part) := by
  have hevents := eventsTaken_slotTaken s hpart
  unfold State.beforeWord
  generalize s.eventsTaken part = v at hevents
  refine ⟨fun x => ?_, hevents.thermal, hevents.baseMap, hevents.effectiveMap, hevents.rest⟩
  obtain ⟨c, hc, hchan⟩ := hevents.chan x
  have hcount : (countSlots (latchSlot v)).chan.get x = (v.chan.get x).countSlot := by cases x <;> rfl
  refine ⟨c, hc, ?_⟩
  dsimp only
  rw [hcount, hchan]
  rfl

/-- Sending the word adds the emission. -/
theorem slotStart_slotTaken : SlotTaken part s (slotStart part s) := by
  have hbefore := beforeWord_slotTaken s hpart
  rw [slotStart_eq_sendSlot part s hpart]
  generalize s.beforeWord part = u at hbefore
  have hword := sendSlot_wordKept s.slotToCome u
  have hsteady := sendSlot_steady s.slotToCome u
  generalize sendSlot s.slotToCome u = t at hword hsteady
  obtain ⟨hheads, hlink, hshadow, hheld, hwindows, hwatch, hgates, hengine, hloader, hfreeze, hbudget⟩ := hbefore.rest
  refine ⟨fun x => ?_, hword.thermal.trans hbefore.thermal, hword.baseMap.trans hbefore.baseMap,
    hword.effectiveMap.trans hbefore.effectiveMap, hword.heads.trans hheads, hword.link.trans hlink,
    hword.shadow.trans hshadow, hword.held.trans hheld, hword.windows.trans hwindows, hword.watch.trans hwatch,
    hword.gates.trans hgates, hword.engine.trans hengine, hword.loader.trans hloader, hword.freeze.trans hfreeze,
    hword.budget.trans hbudget⟩
  obtain ⟨c, hc, hchan⟩ := hbefore.chan x
  have hrest := (hsteady x).rest
  rw [hchan] at hrest
  exact ⟨c, hc, hrest⟩

end

theorem slotStart_taken (part : SlotPart) (s : State) : SlotTaken part s (slotStart part s) := by
  by_cases hpart : part = .event
  · rw [hpart, slotStart_event_eq]
    exact afterEvents_slotTaken .event _ s
  · exact slotStart_slotTaken s hpart

/-! ## The latched word and the timers (R79, R83, R126, R128) -/

theorem latchWord_get (w : Word) (drive : Vector Nat 12) (h : Fin 12) : (latchWord w drive)[h.val] =
    if bitField w 14 2 = 2 then 0
    else if bitField w 14 2 = 1 ∧ bitField w 10 4 = h.val then bitField w 0 10
    else drive[h.val] := by
  unfold latchWord
  by_cases hlevel : bitField w 14 2 = 1
  · rw [if_pos hlevel, if_neg (by omega)]
    by_cases hhead : bitField w 10 4 = h.val
    · rw [if_pos ⟨hlevel, hhead⟩]
      simp [hhead]
    · rw [if_neg fun hh => hhead hh.2]
      simp [Ne.symm hhead]
  · rw [if_neg hlevel]
    by_cases hoff : bitField w 14 2 = 2
    · rw [if_pos hoff, if_pos hoff]
      simp
    · rw [if_neg hoff, if_neg hoff, if_neg fun hh => hlevel hh.1]

/-- What SLOT_START makes of the mark of its parts. -/
theorem slotStart_split (part : SlotPart) (s : State) (hpart : part ≠ .event) :
    (slotStart part s).framer.split = if s.sendsAhead part then .frameOwed else .whole := by
  rw [slotStart_eq_sendSlot part s hpart]
  exact (sendSlot_wordKept _ _).split

theorem slotStart_drives (part : SlotPart) (s : State) (hpart : part ≠ .event) (x : Side) :
    (slotStart part s).drives.get x =
      if destNames s.framer.lbds x then latchWord s.framer.lbda (s.drives.get x) else s.drives.get x := by
  rw [slotStart_eq_sendSlot part s hpart, (sendSlot_wordKept _ _).drives, beforeWord_drives]

/-- A preamplifier that the running slot's destination does not name keeps its drive levels. -/
theorem slotStart_drive_get (part : SlotPart) (s : State) (hpart : part ≠ .event) (x : Side) (h : Fin 12) :
    ((slotStart part s).drives.get x)[h.val] =
      if destNames s.framer.lbds x = false then (s.drives.get x)[h.val]
      else if bitField s.framer.lbda 14 2 = 2 then 0
      else if bitField s.framer.lbda 14 2 = 1 ∧ bitField s.framer.lbda 10 4 = h.val then bitField s.framer.lbda 0 10
      else (s.drives.get x)[h.val] := by
  simp only [slotStart_drives part s hpart]
  by_cases hnamed : destNames s.framer.lbds x = true
  · simp only [if_pos hnamed]
    exact (latchWord_get ..).trans (if_neg (by simp [hnamed])).symm
  · simp only [if_neg hnamed, if_pos (Bool.eq_false_iff.mpr hnamed)]

theorem slotStart_slot (part : SlotPart) (s : State) (hpart : part ≠ .event) :
    (slotStart part s).framer.slot = some s.slotToCome := by
  rw [slotStart_eq_sendSlot part s hpart]
  exact (sendSlot_wordKept _ _).slot

/-- A timer that counts has counted the slot that ended. -/
theorem slotStart_timers (part : SlotPart) (s : State) (hpart : part ≠ .event) (x : Side) :
    (∀ n, (s.chan.get x).leadTimer = .counting n → ((slotStart part s).chan.get x).leadTimer = .counting (n - 1)) ∧
      ∀ n, (s.chan.get x).kickTimer = .counting n →
        ((slotStart part s).chan.get x).kickTimer = .counting (n - 1) := by
  obtain ⟨m, d, hd, hchan⟩ := beforeWord_chan part s x
  obtain ⟨-, -, -, -, -, -, -, hlead, hkick⟩ := hd.rest
  have hsteady := sendSlot_steady s.slotToCome (s.beforeWord part) x
  rw [slotStart_eq_sendSlot part s hpart]
  refine ⟨fun n hn => hsteady.lead _ ?_, fun n hn => hsteady.kick _ ?_⟩
  · rw [hchan, Channel.countSlot, hlead, hn]
    rfl
  · rw [hchan, Channel.countSlot, hkick, hn]
    rfl

/-- The event of a moment leaves the running slot as it is. -/
theorem slotStart_event_frame (s : State) (x : Side) :
    ((slotStart .event s).chan.get x).leadTimer = (s.chan.get x).leadTimer ∧
      ((slotStart .event s).chan.get x).kickTimer = (s.chan.get x).kickTimer := by
  rw [slotStart_event_eq]
  obtain ⟨-, -, -, -, -, -, -, hlead, hkick⟩ :=
    (afterEvents_chan (s.mapFixed .event) _ s (framesTaken_le s .event) x).rest
  exact ⟨hlead, hkick⟩

/-- Settles O50. -/
theorem slotStartEndsTheRunningSlot : Obligations.SlotStartEndsTheRunningSlot := by
  intro s part hrst
  have htaken := slotStart_taken part s
  have hframes : (if decide (s.framer.split = .frameOwed) = true then 1 else 0) +
      (if s.slotToCome = 0 ∧ decide (s.framer.split = .eventTaken) = false ∧ (part = .whole ∨
        (part = .event ∧ decide (s.framer.split = .frameOwed) = false)) then 1 else 0) = s.framesTaken part := by
    simp [State.framesTaken]
  have hfixed : (s.slotToCome = 1 ∧ decide (s.framer.split = .eventTaken) = false ∧
      (part = .event → decide (s.framer.split = .frameOwed) = false)) ↔ s.mapFixed part := by
    simp [State.mapFixed]
  obtain ⟨hheads, hlink, hshadow, hheld, hwindows, hwatch, hgates, hengine, hloader, hfreeze, hbudget⟩ := htaken.rest
  refine ⟨_, exec_slotStart hrst, ?_⟩
  dsimp only
  rw [hframes, hfixed]
  refine ⟨fun hpart => ⟨slotStart_slot part s hpart, ?_, fun x h => ?_, slotStart_timers part s hpart⟩,
    fun hpart => ?_, fun x => ?_, fun hc => ?_, fun hc => ?_, ?_, htaken.baseMap, fun hnot => ?_, fun hfix k => ?_,
    hheads, hlink, hshadow, hheld, hwindows, hwatch, hgates, hengine, hloader, hfreeze, hbudget⟩
  · rw [State.lbfs, slotStart_slot part s hpart]
    simp
  · exact (slotStart_drive_get part s hpart x h).trans (if_congr (by cases x <;> rfl) rfl rfl)
  · subst hpart
    obtain ⟨_, _, _, hshape⟩ := afterEvents_shape (s.mapFixed .event) _ s (s.framesTaken .event)
    refine ⟨?_, ?_, ?_, ?_, slotStart_event_frame s⟩
    all_goals
      rw [slotStart_event_eq, hshape]
  · obtain ⟨c, hc, hchan⟩ := htaken.chan x
    obtain ⟨hstate, hhead, hepisode, hlive, hstaged, hfirst, hkick, -, -⟩ := hc.rest
    obtain ⟨-, -, -, -, -, hintervals⟩ := hc.record
    obtain ⟨hduration, hdwell⟩ := hc.counts
    rw [hchan]
    exact ⟨hstate, hhead, hepisode, hlive, hstaged, hfirst, hkick, hintervals, hduration, hdwell⟩
  · exact htaken.thermal.trans (frameStarts_thermal_of_not_configured _ s (by simp [State.configured, hc]))
  · exact htaken.thermal.trans (frameStarts_thermal s (framesTaken_le s part) (by simp [State.configured, hc]))
  · cases part with
    | event =>
      rw [slotStart_event_eq]
      exact if_congr (by simp) rfl rfl
    | whole => exact (slotStart_split .whole s (by simp)).trans (if_neg (by simp [State.sendsAhead]))
    | word => exact (slotStart_split .word s (by simp)).trans (if_congr (by simp [State.sendsAhead]) rfl rfl)
  · exact htaken.effectiveMap.trans (if_neg hnot)
  · simp only [htaken.effectiveMap, if_pos hfix, Vector.getElem_ofFn]
    cases s.framer.baseMap[k.val] with
    | chan x => exact if_congr (by simp [State.quiet, and_assoc]) rfl rfl
    | _ => rfl

end Sys2Proof.Machine
end
